-- ==== Sys2Proof/Word.lean ====
section
/-! DEFINITION. The bit-vector types the spec works with (00_scope R15; widths of 00_scope section 5). -/

namespace Sys2Proof

/-- A byte of IBUF or of the source's buffer (10_state R38). -/
abbrev Byte := BitVec 8

/-- A register, a bus data word, a command word, or a binary32 word: 32 bits (20_memory R61, 30_encoding R90, R98). -/
abbrev Word := BitVec 32

/-- A binary64 word, the contents of one OBUF entry (30_encoding R93, 10_state R39). -/
abbrev DWord := BitVec 64

/-- A host bus byte address: 24 bits (20_memory R60). -/
abbrev Addr := BitVec 24

end Sys2Proof
end

