-- ==== Sys2Proof/Syntax.lean ====
section
/-! DEFINITION. The commands of the opcode table, the command word's fields, and the host's side of the bus: accesses,
script lines and pseudo-instructions (30_encoding R98 to R103). -/

namespace Sys2Proof

/-- The commands, one constructor per row of the opcode table (30_encoding R99). They have no operand fields. -/
inductive Instr where
  | nop
  | decode
  | parse
  deriving DecidableEq, Repr

/-- The two fields of a command word (30_encoding R98). -/
structure CmdWord where
  opcode : BitVec 8
  mbz    : BitVec 24
  deriving DecidableEq, Repr

/-- Why a word written to CMD is no command (30_encoding R100). -/
inductive IllegalCmd where
  /-- OPCODE 0x03 to 0xFF -/
  | badOpcode (opcode : BitVec 8)
  /-- MBZ is not zero, whatever OPCODE is -/
  | mbzNonzero (mbz : BitVec 24)
  deriving DecidableEq, Repr

/-- The sixteen host-visible registers (20_memory R62). -/
inductive Reg where
  | cmd | status | cfg | rawLen | decIn | decInfo | decMant | decOutLo | decOutHi
  | hdrForm | hdrDigits | hdrLength | payloadOff | payloadBytes | sampleCount | ibufSize
  deriving DecidableEq, Repr

/-- What a mapped, aligned bus address selects (20_memory R62). -/
inductive Loc where
  | reg (r : Reg)
  /-- IBUF word `k`, bytes 4k to 4k + 3 -/
  | ibufWord (k : Nat)
  /-- bits [31:0] of OBUF entry `j` -/
  | obufLo (j : Nat)
  /-- bits [63:32] of OBUF entry `j` -/
  | obufHi (j : Nat)
  deriving DecidableEq, Repr

/-- One host bus access: a direction, a byte address, a size in bits, and for a write the data (20_memory R61). -/
inductive Access where
  | read (addr : Addr) (size : Nat)
  | write (addr : Addr) (size : Nat) (data : Word)
  deriving DecidableEq, Repr

/-- One thing the host does when it is the host's turn (40_command_interface R127). -/
inductive HostOp where
  | access (a : Access)
  /-- the WAIT_IDLE loop: read STATUS until bit 0 of the value read is 0 (30_encoding R103) -/
  | waitIdle
  /-- assert the reset input (70_reset_and_hazards R270) -/
  | reset
  deriving DecidableEq, Repr

/-- The two agents (00_scope R8). -/
inductive Agent where
  | host
  | unit
  deriving DecidableEq, Repr, Inhabited

/-- The target of a script line (30_encoding R102). -/
inductive Target where
  | reg (r : Reg)
  /-- the IBUF word holding the byte at this offset -/
  | ibuf (offset : Nat)
  | obufLo (j : Nat)
  | obufHi (j : Nat)
  | raw (addr : Addr)
  deriving DecidableEq, Repr

/-- A line of a host script: the two primitive lines of 30_encoding R102, the pseudo-instructions of R103, and the
assertion of reset (40_command_interface R127). -/
inductive ScriptLine where
  | wr (t : Target) (value : Word)
  | rd (t : Target)
  | nop
  | decode (w : Word)
  | parse
  | waitIdle
  | load (bytes : List Byte)
  | clrFlags
  | reset
  deriving DecidableEq, Repr

end Sys2Proof
end

