-- ==== Sys2Proof/Config.lean ====
section
/-! DEFINITION. The fixed parameters of 00_scope section 5, the parameters the model takes as arguments (R9), and the free
values: constants without a body, for what the spec leaves unspecified. Nothing in Lean can evaluate a free value, so a
theorem about one holds whatever it is. -/

namespace Sys2Proof

/-- The arguments of the model (00_scope R9): the open parameter IBUF_BYTES, and the schedule of host accesses against unit
steps, by which `schedule k` is the agent that moves at the k-th choice between the two (log 2, log 5). NAN64 and the draws
are arguments of the same kind, each an opaque function below (log 1, log 3, log 4). -/
structure Params where
  ibufBytes : Nat
  schedule  : Nat → Agent

end Sys2Proof

namespace Sys2Proof.Config

/-- The least number of samples a PARSE accepts (00_scope R13, 42_block_framer R196). -/
def minSamples : Nat := 10

/-- How many bytes are dropped at the end of the buffer (00_scope section 5, 42_block_framer R191). -/
def trailBytes : Nat := 1

/-- The binary32 exponent bias (00_scope section 5, 41_binary32_decoder R141). -/
def expBias : Nat := 127

/-- The width of the binary32 mantissa field (00_scope section 5, 30_encoding R91). -/
def mantBits : Nat := 23

/-- The value a 32-bit count register saturates at (92_eei_decisions D6, 42_block_framer R185, R187). -/
def countMax : Nat := 4294967295

/-- The smallest IBUF_BYTES (00_scope R12). -/
def ibufMin : Nat := 16

/-- The largest IBUF_BYTES (00_scope R12). -/
def ibufMax : Nat := 1048576

/-- OBUF_SAMPLES for a given IBUF_BYTES (00_scope R14). -/
def obufSamples (ibufBytes : Nat) : Nat := ibufBytes / 4 - 1

/-- FREE VALUE (log 1): what IBUF byte `index` holds after the reset event number `resets`, until the host writes it
(70_reset_and_hazards R273; 93_implementation_defined U1, U3, the draw alternative). -/
opaque ibufDraw (resets index : Nat) : Byte

/-- FREE VALUE (log 1): what OBUF entry `index` holds after the reset event number `resets`, until a PARSE writes it
(70_reset_and_hazards R273; 93_implementation_defined U2, the draw alternative). -/
opaque obufDraw (resets index : Nat) : DWord

/-- FREE VALUE (log 4): what the read number `draw` of a PARSE result while BUSY = 1 returns
(70_reset_and_hazards R278; 93_implementation_defined U4). -/
opaque busyRead (draw : Nat) : Word

/-- FREE VALUE (log 3): the sign, and the fraction less one, of NAN64(s, M). The fraction of the result is this number
plus one, so it is never zero, and every NAN64 the spec allows is of this form (41_binary32_decoder R150). -/
opaque nan64 (s : Bool) (m : BitVec 23) : Bool × Fin 4503599627370495

/-- FREE VALUE (log 2): which of the legal sizes the instance's IBUF has, counted from the smallest in steps of 4 bytes. -/
opaque ibufStep : Fin 262141

/-- IBUF_BYTES of the instance that `exec` and `step` run: a multiple of 4 from 16 to 2^20, any of them (00_scope R12). -/
def ibufBytes : Nat := ibufMin + 4 * ibufStep.val

/-- FREE VALUE (log 5): the schedule of the instance that `step` runs (00_scope R9; 93_implementation_defined U7). -/
opaque schedule : Nat → Agent

/-- The arguments of the instance that `exec` and `step` run. -/
def params : Params := { ibufBytes := ibufBytes, schedule := schedule }

end Sys2Proof.Config
end

