-- ==== Sys2Proof/WellFormed.lean ====
section
/-! DEFINITION. Which terms of the syntax are legal: command words by 30_encoding R98, R99, script lines by
30_encoding R102, R103. Nothing outside these checks stops an ill-formed term: the machine answers a word that is no
command by ILLEGAL_CMD and an address that is not mapped by ADDR_ERR. -/

namespace Sys2Proof

/-- A command word is legal when MBZ is zero and OPCODE is 0x00, 0x01 or 0x02 (30_encoding R98). -/
def CmdWord.wellFormed (c : CmdWord) : Bool :=
  c.mbz == 0#24 && (c.opcode == 0x00#8 || c.opcode == 0x01#8 || c.opcode == 0x02#8)

/-- The opcode of a command (30_encoding R99). -/
def Instr.opcode : Instr → BitVec 8
  | .nop => 0x00#8
  | .decode => 0x01#8
  | .parse => 0x02#8

/-- The command word of a command: its opcode with MBZ = 0 (30_encoding R98). -/
def Instr.cmdWord (i : Instr) : CmdWord := { opcode := i.opcode, mbz := 0#24 }

/-- A command is well formed when its command word is. Commands have no operands, so every one is. -/
def Instr.wellFormed (i : Instr) : Bool := i.cmdWord.wellFormed

/-- A script target is well formed when an IBUF offset is a multiple of 4 (30_encoding R102) and the entry or byte it
names exists in a unit with `n` bytes of IBUF (20_memory R62). -/
def Target.wellFormed (n : Nat) : Target → Bool
  | .reg _ => true
  | .ibuf off => off % 4 == 0 && decide (off < n)
  | .obufLo j => decide (j < Config.obufSamples n)
  | .obufHi j => decide (j < Config.obufSamples n)
  | .raw _ => true

/-- A script line is well formed when its target is, and when LOAD's bytes fit IBUF (30_encoding R102, R103). -/
def ScriptLine.wellFormed (n : Nat) : ScriptLine → Bool
  | .wr t _ => t.wellFormed n
  | .rd t => t.wellFormed n
  | .load bytes => decide (bytes.length ≤ n)
  | .nop => true
  | .decode _ => true
  | .parse => true
  | .waitIdle => true
  | .clrFlags => true
  | .reset => true

/-- IBUF_BYTES is a multiple of 4 from 16 to 2^20 (00_scope R12). -/
def ibufBytesLegal (n : Nat) : Bool :=
  decide (n % 4 = 0) && decide (Config.ibufMin ≤ n) && decide (n ≤ Config.ibufMax)

/-- The arguments of the model are legal when IBUF_BYTES is; every schedule is. -/
def Params.legal (p : Params) : Bool := ibufBytesLegal p.ibufBytes

end Sys2Proof
end

