-- ==== Sys2Proof/Decode.lean ====
section
/-! DEFINITION. The command word's decoding and encoding (30_encoding R98 to R101), and the lowering of script lines to
bus accesses (30_encoding R102, R103). -/

namespace Sys2Proof

/-- OPCODE is bits [7:0] and MBZ is bits [31:8] of the word written to CMD (30_encoding R98). -/
def splitCmd (v : Word) : CmdWord :=
  { opcode := v.extractLsb' 0 8, mbz := v.extractLsb' 8 24 }

/-- A command word from its fields (30_encoding R98). -/
def joinCmd (c : CmdWord) : Word := c.mbz ++ c.opcode

/-- The command a word written to CMD selects, by matching all 32 bits (30_encoding R99). Any other word is rejected by
name (30_encoding R100): MBZ is looked at first, so 0x00000101 is not DECODE (40_command_interface R122). -/
def decode (v : Word) : Except IllegalCmd Instr :=
  if (splitCmd v).mbz ≠ 0#24 then .error (.mbzNonzero (splitCmd v).mbz)
  else if (splitCmd v).opcode = 0x00#8 then .ok .nop
  else if (splitCmd v).opcode = 0x01#8 then .ok .decode
  else if (splitCmd v).opcode = 0x02#8 then .ok .parse
  else .error (.badOpcode (splitCmd v).opcode)

/-- The word of a command (30_encoding R99). -/
def encode (i : Instr) : Word := joinCmd i.cmdWord

/-- The command word whose low `nbits` bits are those of `w` and whose higher bits are zero. A command is one 32-bit word,
written to CMD in one access, so there is no byte order to lay out (30_encoding R98, R101). -/
def tableWord (nbits w : Nat) : Word := BitVec.ofNat 32 (w % 2 ^ nbits)

/-- What the decoder reads from a word numbered as the opcode table numbers it. -/
def decodeTableWord (nbits w : Nat) : Option Instr :=
  match decode (tableWord nbits w) with
  | .ok i => some i
  | .error _ => none

/-- The bus address of a register (20_memory R62). -/
def Reg.addr : Reg → Addr
  | .cmd => 0x000000#24
  | .status => 0x000004#24
  | .cfg => 0x000008#24
  | .rawLen => 0x00000C#24
  | .decIn => 0x000010#24
  | .decInfo => 0x000014#24
  | .decMant => 0x000018#24
  | .decOutLo => 0x00001C#24
  | .decOutHi => 0x000020#24
  | .hdrForm => 0x000024#24
  | .hdrDigits => 0x000028#24
  | .hdrLength => 0x00002C#24
  | .payloadOff => 0x000030#24
  | .payloadBytes => 0x000034#24
  | .sampleCount => 0x000038#24
  | .ibufSize => 0x00003C#24

/-- The bus address of a script target (30_encoding R102, 20_memory R62). -/
def Target.addr : Target → Addr
  | .reg r => r.addr
  | .ibuf off => BitVec.ofNat 24 (0x100000 + 4 * (off / 4))
  | .obufLo j => BitVec.ofNat 24 (0x200000 + 8 * j)
  | .obufHi j => BitVec.ofNat 24 (0x200000 + 8 * j + 4)
  | .raw a => a

/-- A 32-bit write to a target: `WR <target>, <value>` (30_encoding R102). -/
def wrOp (t : Target) (v : Word) : HostOp := .access (.write t.addr 32 v)

/-- A 32-bit read of a target: `RD <target>` (30_encoding R102). -/
def rdOp (t : Target) : HostOp := .access (.read t.addr 32)

/-- The word that LOAD writes from the bytes at the front of the list, little-endian, a byte beyond the last as 0x00
(30_encoding R103). -/
def packWord (bs : List Byte) : Word :=
  bs.getD 3 0#8 ++ bs.getD 2 0#8 ++ bs.getD 1 0#8 ++ bs.getD 0 0#8

/-- LOAD's writes to IBUF from word `k` on, `fuel` words at most (30_encoding R103). -/
def loadWords : Nat → Nat → List Byte → List HostOp
  | 0, _, _ => []
  | _, _, [] => []
  | fuel + 1, k, bs => wrOp (.ibuf (4 * k)) (packWord bs) :: loadWords fuel (k + 1) (bs.drop 4)

/-- What a script line makes the host do: a primitive line is one access, a pseudo-instruction its expansion
(30_encoding R102, R103). WAIT_IDLE stays one operation, which the host repeats while it reads BUSY = 1. -/
def ScriptLine.expand : ScriptLine → List HostOp
  | .wr t v => [wrOp t v]
  | .rd t => [rdOp t]
  | .nop => [wrOp (.reg .cmd) 0x00000000#32]
  | .decode w => [wrOp (.reg .decIn) w, wrOp (.reg .cmd) 0x00000001#32]
  | .parse => [wrOp (.reg .cmd) 0x00000002#32]
  | .waitIdle => [.waitIdle]
  | .load bytes =>
    loadWords ((bytes.length + 3) / 4) 0 bytes ++ [wrOp (.reg .rawLen) (BitVec.ofNat 32 bytes.length)]
  | .clrFlags => [wrOp (.reg .status) 0x00030000#32]
  | .reset => [.reset]

/-- What a whole script makes the host do, line by line (30_encoding R102). -/
def expandScript (lines : List ScriptLine) : List HostOp := lines.flatMap ScriptLine.expand

end Sys2Proof
end

