-- ==== Sys2Proof/Machine/State.lean ====
section
/-! DEFINITION. The state of the unit (10_state), as plain data, with the host agent's program and the schedule beside
it; the reasons a step can stop; the state after reset (70_reset_and_hazards R271). -/

namespace Sys2Proof.Machine

/-- CFG.F32_MODE: 0 = MANUAL, 1 = NATIVE (10_state R29). -/
inductive F32Mode where
  | manual
  | native
  deriving DecidableEq, Repr

/-- CFG.LEN_STRICT: 0 = LENIENT, 1 = STRICT (10_state R29). -/
inductive LenPolicy where
  | lenient
  | strict
  deriving DecidableEq, Repr

/-- STATUS.ERR, the outcome of the last command other than NOP. The reserved codes 6 to 15 are never written
(10_state R25), so they have no constructor. -/
inductive ErrCode where
  | none | malformedHeader | payloadTooShort | lengthMismatch | lenRange | illegalCmd
  deriving DecidableEq, Repr

/-- STATUS.HDR_CAUSE. The reserved codes 5 to 7 are never written (10_state R26), so they have no constructor. -/
inductive HdrCause where
  | none | noMarker | truncated | badDigit | noCloseParen
  deriving DecidableEq, Repr

/-- The job of a PARSE, fixed when it is accepted (10_state R36): the bytes IBUF[0 .. RAW_LEN - 1] (so RAW_LEN is their
number, log 11) and the two fields of CFG. -/
structure Job where
  bytes  : List Byte
  mode   : F32Mode
  policy : LenPolicy
  deriving DecidableEq, Repr

/-- The framer's hidden state (10_state R36). -/
inductive Fsm where
  | idle
  | parsing (job : Job)
  deriving DecidableEq, Repr

/-- The state. Fields down to `obuf` are the spec's (10_state R20); the rest are the model's own. -/
structure State where
  /-- hidden framer state; STATUS.BUSY = 1 exactly when it is PARSING (10_state R36, R24; log 10) -/
  fsm          : Fsm
  /-- STATUS.ERR (10_state R25) -/
  err          : ErrCode
  /-- STATUS.HDR_CAUSE (10_state R26) -/
  hdrCause     : HdrCause
  /-- STATUS.ADDR_ERR (10_state R27) -/
  addrErr      : Bool
  /-- STATUS.WR_IGNORED (10_state R28) -/
  wrIgnored    : Bool
  /-- CFG.F32_MODE (10_state R29) -/
  f32Mode      : F32Mode
  /-- CFG.LEN_STRICT (10_state R29) -/
  lenPolicy    : LenPolicy
  /-- RAW_LEN (10_state R30) -/
  rawLen       : Word
  /-- DEC_IN (10_state R31) -/
  decIn        : Word
  /-- DEC_INFO (10_state R32) -/
  decInfo      : Word
  /-- DEC_MANT (10_state R33) -/
  decMant      : Word
  /-- DEC_OUT_LO (10_state R34) -/
  decOutLo     : Word
  /-- DEC_OUT_HI (10_state R34) -/
  decOutHi     : Word
  /-- HDR_FORM (10_state R35) -/
  hdrForm      : Word
  /-- HDR_DIGITS (10_state R35) -/
  hdrDigits    : Word
  /-- HDR_LENGTH (10_state R35) -/
  hdrLength    : Word
  /-- PAYLOAD_OFF (10_state R35) -/
  payloadOff   : Word
  /-- PAYLOAD_BYTES (10_state R35) -/
  payloadBytes : Word
  /-- SAMPLE_COUNT (10_state R35) -/
  sampleCount  : Word
  /-- IBUF: the bytes the host has written since reset, by byte index (10_state R38; log 6) -/
  ibuf         : List Host.Cell
  /-- OBUF: the entries a PARSE has written since reset, by entry number (10_state R39; log 6) -/
  obuf         : List (Nat × DWord)
  /-- the host's program still to run (00_scope R8, 30_encoding R102; log 5) -/
  script       : List HostOp
  /-- how many choices of the schedule have been taken: the schedule itself is an argument (00_scope R9; log 5) -/
  clock        : Nat
  /-- the host's next access comes before any unit step: set by withFetchWord alone (log 9) -/
  granted      : Bool
  /-- what the host's reads returned, newest first (40_command_interface R128; log 8) -/
  replies      : List Word
  /-- how many reads of results while BUSY there have been (70_reset_and_hazards R278; log 4) -/
  draws        : Nat
  /-- how many reset events there have been (70_reset_and_hazards R270, R273; log 7) -/
  resets       : Nat
  deriving DecidableEq, Repr

/-- A step never faults: "The unit itself never traps and never hangs" (00_scope R10), a failure of a command is an
outcome in STATUS, and what 93_implementation_defined U1 to U3 leave open is drawn, the alternative they admit (log 1,
log 12). So the type has no constructor: nobody raises a fault. -/
inductive Fault where
  deriving DecidableEq, Repr

/-- Why the machine has no meaning for an instruction. -/
inductive Refusal where
  /-- Raised by `exec` alone, for an instruction of the opcode table that has no meaning yet; safe, because the machine
  then stops. No arm of `exec` raises it: every instruction has its meaning. -/
  | notModelled (mnemonic : String)
  deriving DecidableEq, Repr

/-- The machine right after reset (70_reset_and_hazards R271), whatever IBUF_BYTES is: every register 0, fsm IDLE, no buffer
entry written. The host's program is empty (log 9). -/
def State.reset : State :=
  { fsm := .idle
    err := .none
    hdrCause := .none
    addrErr := false
    wrIgnored := false
    f32Mode := .manual
    lenPolicy := .lenient
    rawLen := 0#32
    decIn := 0#32
    decInfo := 0#32
    decMant := 0#32
    decOutLo := 0#32
    decOutHi := 0#32
    hdrForm := 0#32
    hdrDigits := 0#32
    hdrLength := 0#32
    payloadOff := 0#32
    payloadBytes := 0#32
    sampleCount := 0#32
    ibuf := []
    obuf := []
    script := []
    clock := 0
    granted := false
    replies := []
    draws := 0
    resets := 0 }

end Sys2Proof.Machine
end

