-- ==== Sys2Proof/Machine/Ops.lean ====
section
/-! DEFINITION. The named operations over the state: buffer memory, recording an outcome (the unit's only "exception
entry"), the sticky flags, the busy gate, replies to the host, and the reset event. -/

namespace Sys2Proof.Machine

/-! ### Sparse memory (log 6)

A list of (key, value) pairs, keys strictly rising. An unlisted key has no stored value: it has not been written since
reset (70_reset_and_hazards R273). -/

/-- The stored value at a key, none where nothing has been written. -/
def Memory.find {α : Type} : List (Nat × α) → Nat → Option α
  | [], _ => none
  | (k, v) :: rest, a => if k = a then some v else Memory.find rest a

/-- Store a value at a key. -/
def Memory.put {α : Type} : List (Nat × α) → Nat → α → List (Nat × α)
  | [], a, v => [(a, v)]
  | (k, w) :: rest, a, v =>
    if a < k then (a, v) :: (k, w) :: rest
    else if a = k then (a, v) :: rest
    else (k, w) :: Memory.put rest a v

/-- Store consecutive values from key `a` on. -/
def Memory.putAll {α : Type} : List (Nat × α) → Nat → List α → List (Nat × α)
  | m, _, [] => m
  | m, a, v :: vs => Memory.putAll (Memory.put m a v) (a + 1) vs

/-- Every key is at least `lo`, below `cap`, and greater than the one before it. -/
def Memory.risingFrom {α : Type} (cap : Nat) : Nat → List (Nat × α) → Bool
  | _, [] => true
  | lo, (k, _) :: rest => decide (lo ≤ k) && decide (k < cap) && Memory.risingFrom cap (k + 1) rest

/-- The canonical form of a memory of `cap` entries: keys strictly rising, all below `cap`. -/
def Memory.wf {α : Type} (cap : Nat) (m : List (Nat × α)) : Bool := Memory.risingFrom cap 0 m

/-! ### IBUF and OBUF -/

/-- IBUF[i]: the byte last written, or the unspecified byte reset left there (10_state R38, 70 R273; log 1). -/
def ibufByte (s : State) (i : Nat) : Byte :=
  (Memory.find s.ibuf i).getD (Config.ibufDraw s.resets i)

/-- OBUF[j]: the entry last written, or the unspecified entry reset left there (10_state R39, 70 R273; log 1). -/
def obufEntry (s : State) (j : Nat) : DWord :=
  (Memory.find s.obuf j).getD (Config.obufDraw s.resets j)

/-- A 32-bit word from its bytes, `b0` the least significant (20_memory R63, 30_encoding R90). -/
def wordOfBytes (b0 b1 b2 b3 : Byte) : Word := b3 ++ b2 ++ b1 ++ b0

/-- Byte `b` of a 32-bit word, byte 0 the least significant: bits [8b+7:8b] (20_memory R63). -/
def byteOfWord (v : Word) (b : Nat) : Byte := v.extractLsb' (8 * b) 8

/-- IBUF word `k` as the bus packs it (20_memory R63). -/
def ibufWord (s : State) (k : Nat) : Word :=
  wordOfBytes (ibufByte s (4 * k)) (ibufByte s (4 * k + 1)) (ibufByte s (4 * k + 2)) (ibufByte s (4 * k + 3))

/-- Write the four bytes of IBUF word `k` (20_memory R63). -/
def State.putIbufWord (s : State) (k : Nat) (v : Word) : State :=
  { s with ibuf := Memory.putAll s.ibuf (4 * k) [byteOfWord v 0, byteOfWord v 1, byteOfWord v 2, byteOfWord v 3] }

/-- Write OBUF[0], OBUF[1], ... from a list of samples (42_block_framer R195). -/
def State.putSamples (s : State) (samples : List DWord) : State :=
  { s with obuf := Memory.putAll s.obuf 0 samples }

/-! ### One register, the FSM and the host's program -/

/-- DEC_IN <- v, accepted at any time (10_state R31). -/
def State.setDecIn (s : State) (v : Word) : State := { s with decIn := v }

/-- RAW_LEN <- v, any 32-bit value (10_state R30). -/
def State.setRawLen (s : State) (v : Word) : State := { s with rawLen := v }

/-- fsm <- S (00_scope R16, 10_state R36). -/
def State.setFsm (s : State) (f : Fsm) : State := { s with fsm := f }

/-- The host's remaining program becomes `ops` (log 5). -/
def State.setScript (s : State) (ops : List HostOp) : State := { s with script := ops }


/-! ### BUSY, the sticky flags, replies -/

/-- STATUS.BUSY (10_state R24, R36). -/
def State.busy (s : State) : Bool :=
  match s.fsm with
  | .idle => false
  | .parsing _ => true

/-- STATUS.ADDR_ERR <- 1, the only effect of an access the bus does not admit (10_state R27, 20_memory R64). -/
def State.setAddrErr (s : State) : State := { s with addrErr := true }

/-- STATUS.WR_IGNORED <- 1, the only effect of a write discarded because BUSY = 1 (10_state R28, 40 R125). -/
def State.ignoreWrite (s : State) : State := { s with wrIgnored := true }

/-- Do `f` when BUSY = 0; while BUSY = 1 discard the write that asks for it (40_command_interface R120, R125). -/
def State.whenIdle (s : State) (f : State → State) : State :=
  if s.busy then s.ignoreWrite else f s

/-- The host's read returns `v` (log 8). -/
def State.reply (s : State) (v : Word) : State := { s with replies := v :: s.replies }

/-- The host's read returns an unspecified value, a fresh one each time (70_reset_and_hazards R278; log 4). -/
def State.replyDraw (s : State) : State :=
  { s with replies := Config.busyRead s.draws :: s.replies, draws := s.draws + 1 }

/-! ### Recording an outcome

The unit takes no trap: no pc, status or mode is saved and control goes nowhere. Its "trap entry" is this one operation
(60_exceptions R245, R253), and there is no return from it: an outcome stays until the next command other than NOP or
reset (R254). -/

/-- `raise`: STATUS.ERR <- the outcome, STATUS.HDR_CAUSE <- the cause for MALFORMED_HEADER, else 0 (60_exceptions R245,
R242). -/
def State.raise (s : State) (e : ErrCode) (c : HdrCause) : State :=
  { s with err := e, hdrCause := if e = .malformedHeader then c else .none }

/-! ### The reset event -/

/-- One reset event (70_reset_and_hazards R270 to R273): the reset state, with the buffers' contents unspecified anew. A
PARSE in progress is abandoned. The host, the place in the schedule and the record of the host's reads are not the
unit's. -/
def State.resetEvent (s : State) : State :=
  { State.reset with
    script := s.script
    clock := s.clock
    granted := s.granted
    replies := s.replies
    draws := s.draws
    resets := s.resets + 1 }

end Sys2Proof.Machine
end

