-- ==== Sys2Proof/Machine/Flags.lean ====
section
/-! DEFINITION. The STATUS and CFG words as the bus shows them, and the effect of writing them (10_state R23 to R29). -/

namespace Sys2Proof.Machine

/-- The 4-bit code of an outcome (10_state R25). -/
def ErrCode.code : ErrCode → BitVec 4
  | .none => 0#4
  | .malformedHeader => 1#4
  | .payloadTooShort => 2#4
  | .lengthMismatch => 3#4
  | .lenRange => 4#4
  | .illegalCmd => 5#4

/-- The 3-bit code of a cause (10_state R26). -/
def HdrCause.code : HdrCause → BitVec 3
  | .none => 0#3
  | .noMarker => 1#3
  | .truncated => 2#3
  | .badDigit => 3#3
  | .noCloseParen => 4#3

/-- The STATUS word: BUSY [0], ERR [7:4], HDR_CAUSE [10:8], ADDR_ERR [16], WR_IGNORED [17], reserved bits 0
(10_state R23). -/
def State.statusWord (s : State) : Word :=
  0#14 ++ BitVec.ofBool s.wrIgnored ++ BitVec.ofBool s.addrErr ++ 0#5 ++ s.hdrCause.code ++ s.err.code ++ 0#3
    ++ BitVec.ofBool s.busy

/-- A write to STATUS: bit 16 = 1 clears ADDR_ERR, bit 17 = 1 clears WR_IGNORED, nothing else happens
(10_state R23, 92_eei_decisions D32). -/
def State.writeStatus (s : State) (v : Word) : State :=
  { s with addrErr := s.addrErr && !v.getLsbD 16, wrIgnored := s.wrIgnored && !v.getLsbD 17 }

/-- CFG.F32_MODE from bit 0 (10_state R29). -/
def F32Mode.ofBit (b : Bool) : F32Mode := if b then .native else .manual

/-- Bit 0 of CFG (10_state R29). -/
def F32Mode.bit : F32Mode → Bool
  | .manual => false
  | .native => true

/-- CFG.LEN_STRICT from bit 1 (10_state R29). -/
def LenPolicy.ofBit (b : Bool) : LenPolicy := if b then .strict else .lenient

/-- Bit 1 of CFG (10_state R29). -/
def LenPolicy.bit : LenPolicy → Bool
  | .lenient => false
  | .strict => true

/-- The CFG word: F32_MODE [0], LEN_STRICT [1], reserved bits 0 (10_state R29). -/
def State.cfgWord (s : State) : Word :=
  0#30 ++ BitVec.ofBool s.lenPolicy.bit ++ BitVec.ofBool s.f32Mode.bit

/-- A write to CFG: bits 0 and 1 are stored, reserved bits ignored (10_state R29, WARL). -/
def State.writeCfg (s : State) (v : Word) : State :=
  { s with f32Mode := F32Mode.ofBit (v.getLsbD 0), lenPolicy := LenPolicy.ofBit (v.getLsbD 1) }

end Sys2Proof.Machine
end

