-- ==== Sys2Proof/Machine/Operands.lean ====
section
/-! DEFINITION. What the commands read: the fields of a binary32 word (30_encoding R91, 41_binary32_decoder R141, R142),
and a PARSE's job (10_state R36, 40_command_interface R123). -/

namespace Sys2Proof.Machine

/-- The sign s = w[31] (30_encoding R91). -/
def f32Sign (w : Word) : Bool := w.getLsbD 31

/-- The exponent field E = w[30:23] (30_encoding R91, 90_conflicts C2). -/
def f32Exp (w : Word) : BitVec 8 := w.extractLsb' 23 8

/-- The mantissa field M = w[22:0] (30_encoding R91). -/
def f32Mant (w : Word) : BitVec 23 := w.extractLsb' 0 23

/-- The implicit leading bit: 0 if E = 0, else 1 (41_binary32_decoder R142). -/
def f32Lead (w : Word) : Bool := f32Exp w != 0#8

/-- EXP_UNB = (E - 127) mod 2^9 (41_binary32_decoder R141). -/
def f32ExpUnb (w : Word) : BitVec 9 := (f32Exp w).setWidth 9 - BitVec.ofNat 9 Config.expBias

/-- The bytes IBUF[0 .. n - 1]. -/
def ibufBytesUpTo (s : State) (n : Nat) : List Byte := (List.range n).map (ibufByte s)

/-- The job of a PARSE accepted now: IBUF[0 .. RAW_LEN - 1] and CFG (40_command_interface R123, 42_block_framer R180). -/
def captureJob (s : State) : Job :=
  { bytes := ibufBytesUpTo s s.rawLen.toNat, mode := s.f32Mode, policy := s.lenPolicy }

end Sys2Proof.Machine
end

