-- ==== Sys2Proof/Machine/Decoder.lean ====
section
/-! DEFINITION. The binary32 decoder: decode_f32 in its two modes (41_binary32_decoder R141 to R153) and the DECODE
command (R140). -/

namespace Sys2Proof.Machine

/-- A binary64 word from its sign, biased exponent and fraction (30_encoding R93). -/
def packF64 (s : Bool) (x : BitVec 11) (f : BitVec 52) : DWord := BitVec.ofBool s ++ x ++ f

/-- msb(M), the index of the highest set bit of a mantissa that is not 0 (41_binary32_decoder R146). -/
def msb (m : Nat) : Nat := Nat.log2 m

/-- The result for E = 0, M != 0, whose exponent is p + `bias`: the fraction is (M - 2^p) << (52 - p)
(41_binary32_decoder R146 with 873, R149 with 874). -/
def denormalBits (s : Bool) (m : Nat) (bias : Nat) : DWord :=
  packF64 s (BitVec.ofNat 11 (msb m + bias)) (BitVec.ofNat 52 ((m - 2 ^ msb m) <<< (52 - msb m)))

/-- The result whose exponent is E + 896 and whose fraction is M << 29 (41_binary32_decoder R146, R149). -/
def normalBits (s : Bool) (e m : Nat) : DWord :=
  packF64 s (BitVec.ofNat 11 (e + 896)) (BitVec.ofNat 52 (m <<< 29))

/-- MANUAL mode's result (41_binary32_decoder R146). -/
def manualBits (w : Word) : DWord :=
  if f32Exp w = 0#8 then
    if f32Mant w = 0#23 then packF64 (f32Sign w) 0#11 0#52
    else denormalBits (f32Sign w) (f32Mant w).toNat 873
  else normalBits (f32Sign w) (f32Exp w).toNat (f32Mant w).toNat

/-- NAN64(s, M): a free value that is always a NaN (41_binary32_decoder R150; log 3). -/
def nan64Bits (s : Bool) (m : BitVec 23) : DWord :=
  packF64 (Config.nan64 s m).1 0x7FF#11 (BitVec.ofNat 52 ((Config.nan64 s m).2.val + 1))

/-- NATIVE mode's result (41_binary32_decoder R149, R150). -/
def nativeBits (w : Word) : DWord :=
  if f32Exp w = 0#8 then
    if f32Mant w = 0#23 then packF64 (f32Sign w) 0#11 0#52
    else denormalBits (f32Sign w) (f32Mant w).toNat 874
  else if f32Exp w = 255#8 then
    if f32Mant w = 0#23 then packF64 (f32Sign w) 0x7FF#11 0#52
    else nan64Bits (f32Sign w) (f32Mant w)
  else normalBits (f32Sign w) (f32Exp w).toNat (f32Mant w).toNat

/-- decode_f32's result r, for every 32-bit word and either mode (41_binary32_decoder R153). -/
def decodeF32 (mode : F32Mode) (w : Word) : DWord :=
  match mode with
  | .manual => manualBits w
  | .native => nativeBits w

/-- The DEC_INFO word: EXP_UNB [24:16], EXP_FIELD [15:8], LEAD [1], SIGN [0], the rest 0 (41_binary32_decoder R140,
10_state R32, 90_conflicts C8). -/
def decInfoWord (w : Word) : Word :=
  0#7 ++ f32ExpUnb w ++ f32Exp w ++ 0#6 ++ BitVec.ofBool (f32Lead w) ++ BitVec.ofBool (f32Sign w)

/-- Write the results of decoding DEC_IN, with outcome NONE (41_binary32_decoder R140). -/
def State.doDecode (s : State) : State :=
  ({ s with
      decInfo := decInfoWord s.decIn
      decMant := (f32Mant s.decIn).setWidth 32
      decOutLo := (decodeF32 s.f32Mode s.decIn).extractLsb' 0 32
      decOutHi := (decodeF32 s.f32Mode s.decIn).extractLsb' 32 32 }).raise .none .none

/-- DECODE (41_binary32_decoder R140): discarded while BUSY = 1 (40_command_interface R120). -/
def execDecode (s : State) : Host.Outcome State Fault Refusal := .next (s.whenIdle State.doDecode)

end Sys2Proof.Machine
end

