-- ==== Sys2Proof/Machine/Framer.lean ====
section
/-! DEFINITION. The block payload framer: parse_block (42_block_framer R180 to R198), a PARSE's acceptance (R181) and its
completion in one unit step (70_reset_and_hazards R283). parse_block walks the list of the job's bytes, so it can read
nothing past RAW_LEN (20_memory R79). -/

namespace Sys2Proof.Machine

/-- HDR_FORM: 0 = plain `#<d>`, 1 = parenthesised `#(<digits>)` (10_state R35). -/
inductive HdrForm where
  | plain
  | paren
  deriving DecidableEq, Repr

/-- A header that parsed: its form, digit_count, declared_length and payload_offset (00_scope R18, BlockHeader). -/
structure Header where
  form   : HdrForm
  digits : Nat
  length : Nat
  offset : Nat
  deriving DecidableEq, Repr

/-- What parse_block returns, by outcome (42_block_framer R180, R198). -/
inductive ParseResult where
  | malformed (cause : HdrCause)
  | lengthMismatch (h : Header) (payloadBytes : Nat)
  | tooShort (h : Header) (payloadBytes : Nat) (samples : List DWord)
  | success (h : Header) (payloadBytes : Nat) (samples : List DWord)
  deriving DecidableEq, Repr

/-- isdigit (00_scope R16): only the bytes 0x30 to 0x39 (42_block_framer R189). -/
def isDigit (c : Byte) : Bool := decide (0x30 ≤ c.toNat) && decide (c.toNat ≤ 0x39)

/-- digit(c) = c - 0x30 (00_scope R16). -/
def digitVal (c : Byte) : Nat := c.toNat - 0x30

/-- One digit more of a decimal numeral, most significant first (30_encoding R96). -/
def foldDigit (value : Nat) (c : Byte) : Nat := value * 10 + digitVal c

/-- The value of a decimal numeral (30_encoding R96). -/
def numeral (digits : List Byte) : Nat := digits.foldl foldDigit 0

/-- The scan for `)` from index `i` on, `dc` the numeral so far: digit_count, the index after `)`, and the bytes there
(42_block_framer R184). -/
def scanCount : List Byte → Nat → Nat → Except HdrCause (Nat × Nat × List Byte)
  | [], _, _ => .error .noCloseParen
  | c :: rest, i, dc =>
    if c = 0x29#8 then
      if i = 2 then .error .badDigit else .ok (dc, i + 1, rest)
    else if isDigit c then scanCount rest (i + 1) (foldDigit dc c)
    else .error .badDigit

/-- The next `k` bytes as the length numeral, `len` the value so far: declared_length and the bytes after it
(42_block_framer R186). -/
def readLength : List Byte → Nat → Nat → Except HdrCause (Nat × List Byte)
  | rest, 0, len => .ok (len, rest)
  | [], _ + 1, _ => .error .truncated
  | c :: rest, k + 1, len => if isDigit c then readLength rest k (foldDigit len c) else .error .badDigit

/-- The length part of a header whose count part is `dc`, ending before index `p` (42_block_framer R186, R190). -/
def finishHeader (form : HdrForm) (dc p : Nat) (rest : List Byte) : Except HdrCause (Header × List Byte) :=
  match readLength rest dc 0 with
  | .error c => .error c
  | .ok (len, payload) => .ok ({ form := form, digits := dc, length := len, offset := p + dc }, payload)

/-- Steps 1 to 3: the marker, the count part and the length part. On success, the header and the bytes from
payload_offset on (42_block_framer R182 to R190). -/
def parseHeader : List Byte → Except HdrCause (Header × List Byte)
  | [] => .error .noMarker
  | m :: rest =>
    if m ≠ 0x23#8 then .error .noMarker
    else
      match rest with
      | [] => .error .truncated
      | c :: rest' =>
        if c = 0x28#8 then
          match scanCount rest' 2 0 with
          | .error e => .error e
          | .ok (dc, p, after) => finishHeader .paren dc p after
        else if isDigit c then finishHeader .plain (digitVal c) 2 rest'
        else .error .badDigit

/-- The effective payload's length, max(0, n - 1 - p) (42_block_framer R191, R192). -/
def payloadLength (n p : Nat) : Nat := n - Config.trailBytes - p

/-- The first `ns` chunks of the bytes from payload_offset on, each a little-endian binary32 word
(42_block_framer R195, 30_encoding R97). -/
def chunkWords : Nat → List Byte → List Word
  | ns + 1, b0 :: b1 :: b2 :: b3 :: rest => wordOfBytes b0 b1 b2 b3 :: chunkWords ns rest
  | _, _ => []

/-- The declared length is enforced and differs from the payload's (42_block_framer R194, R188). -/
def lengthViolates (policy : LenPolicy) (h : Header) (pb : Nat) : Bool :=
  policy == .strict && h.digits != 0 && h.length != pb

/-- Steps 4 to 7, for a header that parsed (42_block_framer R191 to R197). -/
def parsePayload (mode : F32Mode) (policy : LenPolicy) (n : Nat) (h : Header) (payload : List Byte) : ParseResult :=
  let pb := payloadLength n h.offset
  let ns := pb / 4
  let samples := (chunkWords ns payload).map (decodeF32 mode)
  if lengthViolates policy h pb then .lengthMismatch h pb
  else if ns < Config.minSamples then .tooShort h pb samples
  else .success h pb samples

/-- parse_block, a function of the job alone (42_block_framer R180, R199). -/
def parseBlock (job : Job) : ParseResult :=
  match parseHeader job.bytes with
  | .error c => .malformed c
  | .ok (h, payload) => parsePayload job.mode job.policy job.bytes.length h payload

/-- A count as its register holds it: min(value, 2^32 - 1) (42_block_framer R185, R187). -/
def countWord (n : Nat) : Word := BitVec.ofNat 32 (min n Config.countMax)

/-- The HDR_FORM word (10_state R35). -/
def HdrForm.word : HdrForm → Word
  | .plain => 0#32
  | .paren => 1#32

/-- Write the six result registers for a header that parsed (42_block_framer R198). -/
def State.putResults (s : State) (h : Header) (pb sc : Nat) : State :=
  { s with
    hdrForm := h.form.word
    hdrDigits := countWord h.digits
    hdrLength := countWord h.length
    payloadOff := countWord h.offset
    payloadBytes := countWord pb
    sampleCount := countWord sc }

/-- Clear the six result registers (42_block_framer R198, MALFORMED_HEADER). -/
def State.clearResults (s : State) : State :=
  { s with
    hdrForm := 0#32
    hdrDigits := 0#32
    hdrLength := 0#32
    payloadOff := 0#32
    payloadBytes := 0#32
    sampleCount := 0#32 }

/-- Write the result registers, OBUF, ERR and HDR_CAUSE of a PARSE's outcome (42_block_framer R198, 60 R245). -/
def State.putOutcome (s : State) : ParseResult → State
  | .malformed c => s.clearResults.raise .malformedHeader c
  | .lengthMismatch h pb => (s.putResults h pb 0).raise .lengthMismatch .none
  | .tooShort h pb samples => ((s.putResults h pb (pb / 4)).putSamples samples).raise .payloadTooShort .none
  | .success h pb samples => ((s.putResults h pb (pb / 4)).putSamples samples).raise .none .none

/-- The completion step: every result at once, BUSY <- 0, fsm <- IDLE (70_reset_and_hazards R283, 42 R180). -/
def State.complete (s : State) (job : Job) : State :=
  (s.putOutcome (parseBlock job)).setFsm .idle

/-- The unit's turn: complete the PARSE in progress; when IDLE there is nothing to do (10_state R36, 70 R274, R283). -/
def State.unitTurn (s : State) : State :=
  match s.fsm with
  | .idle => s
  | .parsing job => s.complete job

/-- A PARSE written with BUSY = 0 to a unit with `n` bytes of IBUF: LEN_RANGE at once when RAW_LEN > IBUF_BYTES, else the job is fixed and BUSY = 1
(42_block_framer R180, R181). -/
def State.acceptParse (s : State) (n : Nat) : State :=
  if n < s.rawLen.toNat then s.raise .lenRange .none
  else s.setFsm (.parsing (captureJob s))

/-- PARSE on a unit with `n` bytes of IBUF (42_block_framer R180): discarded while BUSY = 1 (40_command_interface R120). -/
def execParseOf (n : Nat) (s : State) : Host.Outcome State Fault Refusal := .next (s.whenIdle fun t => t.acceptParse n)

/-- PARSE on the instance (log 2). -/
def execParse (s : State) : Host.Outcome State Fault Refusal := execParseOf Config.ibufBytes s

end Sys2Proof.Machine
end

