-- ==== Sys2Proof/Machine/Command.lean ====
section
/-! DEFINITION. NOP and the illegal command word (40_command_interface R121, R122), and the commands of a unit of any size.
DECODE is in Decoder.lean and PARSE in Framer.lean. -/

namespace Sys2Proof.Machine

/-- NOP (40_command_interface R121): nothing; while BUSY = 1 it is discarded like any CMD write. -/
def execNop (s : State) : Host.Outcome State Fault Refusal := .next (s.whenIdle id)

/-- An illegal command word (40_command_interface R122): outcome ILLEGAL_CMD, nothing else; while BUSY = 1 it is
discarded. -/
def State.illegalCmd (s : State) : State := s.whenIdle fun t => t.raise .illegalCmd .none

/-- What a host write of a command's word to CMD does to a unit with `n` bytes of IBUF (40_command_interface R120). `exec`
is this for the instance's size. -/
def execOf (n : Nat) (i : Instr) (s : State) : Host.Outcome State Fault Refusal :=
  match i with
  | .nop => execNop s
  | .decode => execDecode s
  | .parse => execParseOf n s

end Sys2Proof.Machine
end

