-- ==== Sys2Proof/Machine/Bus.lean ====
section
/-! DEFINITION. The host bus: the address map (20_memory R62), which accesses are admitted (R61, R64), and what a read and
a write of each place do (10_state section 2; 20_memory R63, R65; 40_command_interface R120, R125, R126). -/

namespace Sys2Proof.Machine

/-- The register at a word number of the register block (20_memory R62). -/
def regAt : Nat → Option Reg
  | 0 => some .cmd
  | 1 => some .status
  | 2 => some .cfg
  | 3 => some .rawLen
  | 4 => some .decIn
  | 5 => some .decInfo
  | 6 => some .decMant
  | 7 => some .decOutLo
  | 8 => some .decOutHi
  | 9 => some .hdrForm
  | 10 => some .hdrDigits
  | 11 => some .hdrLength
  | 12 => some .payloadOff
  | 13 => some .payloadBytes
  | 14 => some .sampleCount
  | 15 => some .ibufSize
  | _ => none

/-- What a bus address selects in a unit with `n` bytes of IBUF; none for a misaligned or unmapped address (20_memory
R62, R64). -/
def locate (n : Nat) (addr : Addr) : Option Loc :=
  let a := addr.toNat
  if a % 4 ≠ 0 then none
  else if a < 0x40 then (regAt (a / 4)).map Loc.reg
  else if 0x100000 ≤ a ∧ a < 0x100000 + n ∧ a < 0x200000 then some (.ibufWord ((a - 0x100000) / 4))
  else if 0x200000 ≤ a ∧ a < 0x200000 + 8 * Config.obufSamples n then
    if (a - 0x200000) % 8 = 0 then some (.obufLo ((a - 0x200000) / 8)) else some (.obufHi ((a - 0x200000) / 8))
  else none

/-- A read of a PARSE result or of OBUF: the stored value, an unspecified one while BUSY = 1 (10_state R35, 20 R65,
70 R278). -/
def State.replyResult (s : State) (v : Word) : State := if s.busy then s.replyDraw else s.reply v

/-- A read of a register of a unit with `n` bytes of IBUF (10_state R22 to R37; CMD reads 0). -/
def State.readReg (s : State) (n : Nat) : Reg → State
  | .cmd => s.reply 0#32
  | .status => s.reply s.statusWord
  | .cfg => s.reply s.cfgWord
  | .rawLen => s.reply s.rawLen
  | .decIn => s.reply s.decIn
  | .decInfo => s.reply s.decInfo
  | .decMant => s.reply s.decMant
  | .decOutLo => s.reply s.decOutLo
  | .decOutHi => s.reply s.decOutHi
  | .hdrForm => s.replyResult s.hdrForm
  | .hdrDigits => s.replyResult s.hdrDigits
  | .hdrLength => s.replyResult s.hdrLength
  | .payloadOff => s.replyResult s.payloadOff
  | .payloadBytes => s.replyResult s.payloadBytes
  | .sampleCount => s.replyResult s.sampleCount
  | .ibufSize => s.reply (BitVec.ofNat 32 n)

/-- A read of a mapped place: a register, an IBUF word (at any time, 20_memory R63), or half of an OBUF entry (R65). -/
def State.readLoc (s : State) (n : Nat) : Loc → State
  | .reg r => s.readReg n r
  | .ibufWord k => s.reply (ibufWord s k)
  | .obufLo j => s.replyResult ((obufEntry s j).extractLsb' 0 32)
  | .obufHi j => s.replyResult ((obufEntry s j).extractLsb' 32 32)

/-- A host read of a unit with `n` bytes of IBUF. One that is not admitted returns 0 and sets ADDR_ERR (20_memory R64). -/
def State.busRead (s : State) (n : Nat) (addr : Addr) (size : Nat) : State :=
  if size = 32 then
    match locate n addr with
    | some l => s.readLoc n l
    | none => s.setAddrErr.reply 0#32
  else s.setAddrErr.reply 0#32

/-- A host write of a word to CMD: discarded while BUSY = 1, else the command it selects, else ILLEGAL_CMD
(40_command_interface R120). -/
def State.writeCmd (s : State) (n : Nat) (v : Word) : Host.Outcome State Fault Refusal :=
  match Sys2Proof.decode v with
  | .ok i => execOf n i s
  | .error _ => .next s.illegalCmd

/-- A host write to a register (10_state section 2): CMD dispatches, STATUS and DEC_IN take writes at any time, CFG and
RAW_LEN only with BUSY = 0 (40_command_interface R125, R126), and the read-only registers set ADDR_ERR (20_memory R64). -/
def State.writeReg (s : State) (n : Nat) (v : Word) : Reg → Host.Outcome State Fault Refusal
  | .cmd => s.writeCmd n v
  | .status => .next (s.writeStatus v)
  | .cfg => .next (s.whenIdle fun t => t.writeCfg v)
  | .rawLen => .next (s.whenIdle fun t => t.setRawLen v)
  | .decIn => .next (s.setDecIn v)
  | .decInfo => .next s.setAddrErr
  | .decMant => .next s.setAddrErr
  | .decOutLo => .next s.setAddrErr
  | .decOutHi => .next s.setAddrErr
  | .hdrForm => .next s.setAddrErr
  | .hdrDigits => .next s.setAddrErr
  | .hdrLength => .next s.setAddrErr
  | .payloadOff => .next s.setAddrErr
  | .payloadBytes => .next s.setAddrErr
  | .sampleCount => .next s.setAddrErr
  | .ibufSize => .next s.setAddrErr

/-- A host write to a mapped place: IBUF only with BUSY = 0 (20_memory R63), OBUF never (R64). -/
def State.writeLoc (s : State) (n : Nat) (v : Word) : Loc → Host.Outcome State Fault Refusal
  | .reg r => s.writeReg n v r
  | .ibufWord k => .next (s.whenIdle fun t => t.putIbufWord k v)
  | .obufLo _ => .next s.setAddrErr
  | .obufHi _ => .next s.setAddrErr

/-- A host write to a unit with `n` bytes of IBUF. One that is not admitted only sets ADDR_ERR (20_memory R64). -/
def State.busWrite (s : State) (n : Nat) (addr : Addr) (size : Nat) (v : Word) : Host.Outcome State Fault Refusal :=
  if size = 32 then
    match locate n addr with
    | some l => s.writeLoc n v l
    | none => .next s.setAddrErr
  else .next s.setAddrErr

/-- One host access to a unit with `n` bytes of IBUF, atomic (20_memory R69, R71). -/
def State.access (s : State) (n : Nat) : Access → Host.Outcome State Fault Refusal
  | .read addr size => .next (s.busRead n addr size)
  | .write addr size v => s.busWrite n addr size v

end Sys2Proof.Machine
end

