-- ==== Sys2Proof/Machine/Agents.lean ====
section
/-! DEFINITION. The two agents' turns (00_scope R8, R9; 20_memory R69, R71): the host runs the next operation of its
script, the unit completes a PARSE in progress. IBUF_BYTES and the schedule are arguments (R9). -/

namespace Sys2Proof.Machine

/-- One turn of WAIT_IDLE: a read of STATUS; the loop goes on while bit 0 of the value read is 1 (30_encoding R103). -/
def State.pollStatus (s : State) : State :=
  if s.busy then (s.reply s.statusWord).setScript (.waitIdle :: s.script) else s.reply s.statusWord

/-- One host operation on a unit with `n` bytes of IBUF, already taken off the script (40_command_interface R127). -/
def State.hostOp (s : State) (n : Nat) : HostOp → Host.Outcome State Fault Refusal
  | .access a => s.access n a
  | .waitIdle => .next s.pollStatus
  | .reset => .next s.resetEvent

/-- The host's turn: the next operation of its script; a host that has performed its last access does nothing
(40_command_interface R128). -/
def State.hostTurn (s : State) (n : Nat) : Host.Outcome State Fault Refusal :=
  match s.script with
  | [] => .next s
  | op :: rest => (s.setScript rest).hostOp n op

/-- Whether both agents can move, so that the schedule chooses: an IDLE unit has no step to take (70_reset_and_hazards
R274), and an access that has been granted comes first (log 9). -/
def State.contended (s : State) : Bool := s.busy && !s.granted

/-- The agent that moves next: the schedule's choice when both can, else the host (00_scope R9; log 5). -/
def State.nextAgent (s : State) (schedule : Nat → Agent) : Agent :=
  if s.contended then schedule s.clock else .host

/-- The choice of who moves has been taken: the schedule's next choice comes after it, and a grant is used up. -/
def State.advance (s : State) : State :=
  { s with clock := if s.contended then s.clock + 1 else s.clock, granted := false }

/-- One atomic step of one agent, for the given IBUF_BYTES and schedule (20_memory R69, R71; 00_scope R9). -/
def State.stepWith (s : State) (p : Params) : Host.Outcome State Fault Refusal :=
  match s.nextAgent p.schedule with
  | .host => s.advance.hostTurn p.ibufBytes
  | .unit => .next s.advance.unitTurn

/-- The access `WR CMD, v` (30_encoding R103). -/
def cmdWrite (v : Word) : HostOp := wrOp (.reg .cmd) v

/-- The host is about to write `v` to CMD in the very next step (log 9). -/
def State.withCmdWrite (s : State) (v : Word) : State :=
  { s with script := cmdWrite v :: s.script, granted := true }

end Sys2Proof.Machine
end

