-- ==== Sys2Proof/Machine/Step.lean ====
section
/-! DEFINITION. One step of the machine: the agent whose turn it is moves (00_scope R8, R9), on the instance's arguments. -/

namespace Sys2Proof.Machine

/-- One atomic step, of the host or of the unit (20_memory R69, R71), on the instance's IBUF_BYTES and schedule, of which
nothing is known (log 2, log 5). -/
def step (s : State) : Host.Outcome State Fault Refusal := s.stepWith Config.params

/-- The state in which the very next step is the host's write of the command word `w` to CMD. The unit fetches nothing
(20_memory R76): a command comes to it in a CMD write, so the word is put at the head of the host's script and that access
is granted before any unit step (log 9). -/
def State.withFetchWord (s : State) (nbits w : Nat) : State := s.withCmdWrite (tableWord nbits w)

end Sys2Proof.Machine
end

