-- ==== Sys2Proof/Safety.lean ====
section
/-! DEFINITION. The terms the claims use: when a run has ended, the invariants of the machine, the numbers binary32 and
binary64 words stand for, and the block framing grammar. Nothing here is called by `step`. -/

namespace Sys2Proof.Machine

/-! ### Runs -/

/-- The machine for the given arguments (00_scope R9). Sys2Proof.core is this for the instance's. -/
def coreOf (p : Params) : Host.Core :=
  { State := State, Fault := Fault, Refusal := Refusal, step := fun s => s.stepWith p, reset := State.reset }

/-- Weak fairness of the unit agent: at every point the unit still gets a turn (00_scope R11, 70_reset_and_hazards R283). -/
def Fair (schedule : Nat → Agent) : Prop := ∀ k, ∃ m, k ≤ m ∧ schedule m = .unit

/-- A host script's run has ended: the host has performed its last access and BUSY = 0 (40_command_interface R128). -/
def State.ended (s : State) : Bool := s.script.isEmpty && !s.busy

/-! ### Invariants -/

/-- Both buffers are in canonical form within the capacities of a unit with `n` bytes of IBUF (10_state R38, R39;
log 6). -/
def State.memoryLegal (s : State) (n : Nat) : Bool :=
  Memory.wf n s.ibuf && Memory.wf (Config.obufSamples n) s.obuf

/-- HDR_CAUSE is nonzero exactly when ERR = MALFORMED_HEADER (10_state R26, 60_exceptions R242). -/
def State.causeLegal (s : State) : Bool := (s.err == .malformedHeader) == (s.hdrCause != .none)

/-- While PARSING, the job is still what IBUF, RAW_LEN and CFG hold, and RAW_LEN fits IBUF (10_state R36,
40_command_interface R123, 42_block_framer R181). -/
def State.jobFixed (s : State) (n : Nat) : Prop :=
  match s.fsm with
  | .idle => True
  | .parsing job => job = captureJob s ∧ s.rawLen.toNat ≤ n

/-- The reserved bits of DEC_INFO, DEC_MANT and HDR_FORM are 0 (10_state R32, R33, R35; 30_encoding R100). -/
def State.reservedZero (s : State) : Bool :=
  s.decInfo &&& 0xFE0000FC#32 == 0#32 && s.decMant &&& 0xFF800000#32 == 0#32 && s.hdrForm &&& 0xFFFFFFFE#32 == 0#32

/-- SAMPLE_COUNT is PAYLOAD_BYTES div 4, or 0 where no chunk was decoded (10_state R35, 42_block_framer R193, R198), and
the samples fit OBUF (00_scope R14). -/
def State.countsLegal (s : State) (n : Nat) : Bool :=
  (s.sampleCount.toNat == s.payloadBytes.toNat / 4 || s.sampleCount == 0#32) &&
    decide (s.sampleCount.toNat ≤ Config.obufSamples n)

/-- The invariant of a machine with `n` bytes of IBUF. -/
def State.Inv (s : State) (n : Nat) : Prop :=
  s.memoryLegal n = true ∧ s.causeLegal = true ∧ s.jobFixed n ∧ s.reservedZero = true ∧ s.countsLegal n = true

/-! ### What the numbers mean -/

/-- +1 or -1 (41_binary32_decoder R141). -/
def signValue (s : Bool) : ℚ := if s then -1 else 1

/-- The biased exponent X of a binary64 word (30_encoding R93). -/
def f64Exp (r : DWord) : BitVec 11 := r.extractLsb' 52 11

/-- The fraction F of a binary64 word (30_encoding R93). -/
def f64Frac (r : DWord) : BitVec 52 := r.extractLsb' 0 52

/-- The sign of a binary64 word (30_encoding R93). -/
def f64Sign (r : DWord) : Bool := r.getLsbD 63

/-- The word is a normal binary64 number or a signed zero: 0 < X < 2047, or X = 0 and F = 0 (30_encoding R93). -/
def f64Plain (r : DWord) : Bool :=
  (decide (0 < (f64Exp r).toNat) && decide ((f64Exp r).toNat < 2047)) || (f64Exp r == 0#11 && f64Frac r == 0#52)

/-- The number a normal binary64 word or a signed zero stands for (30_encoding R93). It says nothing about other words. -/
def f64Value (r : DWord) : ℚ :=
  if f64Exp r = 0#11 then 0
  else signValue (f64Sign r) * 2 ^ ((f64Exp r).toNat - 1023 : ℤ) * (1 + (f64Frac r).toNat * 2 ^ (-52 : ℤ))

/-- The fraction as the source sums it: the leading bit, plus 2^-(i+1) for each mantissa bit 22 - i that is set
(41_binary32_decoder R143). -/
def manualFrac (w : Word) : ℚ :=
  (if f32Lead w then 1 else 0) +
    ∑ i ∈ Finset.range Config.mantBits, if (f32Mant w).getLsbD (22 - i) then (2 : ℚ) ^ (-((i : ℤ) + 1)) else 0

/-- The exact MANUAL value, sgn * 2^(E - 127) * frac (41_binary32_decoder R144). -/
def manualValue (w : Word) : ℚ :=
  signValue (f32Sign w) * 2 ^ ((f32Exp w).toNat - 127 : ℤ) * manualFrac w

/-- The IEEE value of a finite binary32 word (41_binary32_decoder R149): sgn * M * 2^-149 for E = 0, else
sgn * 2^(E - 127) * (1 + M * 2^-23). -/
def ieeeValue (w : Word) : ℚ :=
  if f32Exp w = 0#8 then signValue (f32Sign w) * (f32Mant w).toNat * 2 ^ (-149 : ℤ)
  else signValue (f32Sign w) * 2 ^ ((f32Exp w).toNat - 127 : ℤ) * (1 + (f32Mant w).toNat * 2 ^ (-23 : ℤ))

/-! ### The framing grammar (30_encoding R94) -/

/-- DIGIT: every byte is 0x30 to 0x39. -/
def allDigits (ds : List Byte) : Prop := ∀ c ∈ ds, isDigit c = true

/-- count-part: one digit, or one or more digits between parentheses; `dc` is digit_count. -/
def CountPart (form : HdrForm) (dc : Nat) (count : List Byte) : Prop :=
  match form with
  | .plain => ∃ c, count = [c] ∧ isDigit c = true ∧ dc = digitVal c
  | .paren => ∃ ds, count = 0x28#8 :: ds ++ [0x29#8] ∧ ds ≠ [] ∧ allDigits ds ∧ dc = numeral ds

/-- block = "#" count-part length-part rest, where `rest` is the payload and the trailing byte, and where payload_offset
is the length of what comes before `rest`. -/
def Framed (buf : List Byte) (h : Header) (rest : List Byte) : Prop :=
  ∃ count lens,
    buf = 0x23#8 :: count ++ lens ++ rest ∧ CountPart h.form h.digits count ∧ lens.length = h.digits ∧
      allDigits lens ∧ h.length = numeral lens ∧ h.offset = 1 + count.length + lens.length

/-! ### What two outcomes have in common -/

/-- The same outcome, HDR_DIGITS, HDR_LENGTH, payload length and samples, the second header parenthesised with a payload
offset `d` larger (42_block_framer R200). -/
def SameButForm (d : Nat) : ParseResult → ParseResult → Prop
  | .malformed c, .malformed c' => c' = c
  | .lengthMismatch h pb, .lengthMismatch h' pb' =>
    h' = { h with form := .paren, offset := h.offset + d } ∧ pb' = pb
  | .tooShort h pb samples, .tooShort h' pb' samples' =>
    h' = { h with form := .paren, offset := h.offset + d } ∧ pb' = pb ∧ samples' = samples
  | .success h pb samples, .success h' pb' samples' =>
    h' = { h with form := .paren, offset := h.offset + d } ∧ pb' = pb ∧ samples' = samples
  | _, _ => False

end Sys2Proof.Machine
end

