-- ==== Sys2Proof/Certificates/Slice0/Obligations.lean ====
section
/-! DEFINITION. The statements for the provers, in the order of the spec's files: encoding and dispatch, the commands, the
framer, the decoder, the bus, and the whole machine. Each docstring names the rules of spec/ it formalises. What a host
read returns is seen at the head of the field `replies`, the model's record of it (log 8). The statements about the bus, the
commands and the steps hold for every IBUF_BYTES `n` and all arguments `p` (00_scope R9); `exec` and `step` are those of an
instance of which nothing is known (log 2, log 5). -/

open Sys2Proof Sys2Proof.Machine

/-! ### Encoding and dispatch -/

/-- A word decodes to a command exactly when it is that command's word: no bit of the encoding is dropped and no other
word is accepted (30_encoding R98, R99, R101). -/
def Obligations.DecodeEncodeAgree : Prop :=
  ∀ (i : Instr) (v : Word), decode v = .ok i ↔ v = encode i

/-- The opcode map (30_encoding R99): the whole 32 bits select the command, and any other word is illegal. -/
def Obligations.OpcodeMapIsTotal : Prop :=
  ∀ v : Word,
    (v = 0x00000000#32 → decode v = .ok .nop) ∧ (v = 0x00000001#32 → decode v = .ok .decode) ∧
      (v = 0x00000002#32 → decode v = .ok .parse) ∧
      (v ≠ 0x00000000#32 → v ≠ 0x00000001#32 → v ≠ 0x00000002#32 → ∃ e, decode v = .error e)

/-- A few words written out from 30_encoding R98 to R100: bits [7:0] OPCODE, bits [31:8] MBZ. -/
def Obligations.CommandWordsDecode : Prop :=
  decode 0b00000000000000000000000000000000#32 = .ok .nop ∧
    decode 0b00000000000000000000000000000001#32 = .ok .decode ∧
    decode 0b00000000000000000000000000000010#32 = .ok .parse ∧
    decode 0x00000003#32 = .error (.badOpcode 0x03#8) ∧
    decode 0x00000101#32 = .error (.mbzNonzero 1#24) ∧
    decode 0xFFFFFFFF#32 = .error (.mbzNonzero 0xFFFFFF#24)

/-- What a host write to CMD does (40_command_interface R120, with the illegal word of R122): discarded while BUSY = 1,
else the command its word selects, else ERR = ILLEGAL_CMD and HDR_CAUSE = 0 and nothing more. -/
def Obligations.CmdWriteDispatch : Prop :=
  ∀ (n : Nat) (s : State) (v : Word),
    s.access n (.write 0x000000#24 32 v) =
      if s.busy then .next { s with wrIgnored := true }
      else if v = 0x00000000#32 then execOf n .nop s
      else if v = 0x00000001#32 then execOf n .decode s
      else if v = 0x00000002#32 then execOf n .parse s
      else .next { s with err := .illegalCmd, hdrCause := .none }

/-- When the host moves next and the next operation of its script writes to CMD a word that decodes to `i`, the step is
`exec i`, with the operation taken off the script and the choice of who moves taken (log 5, log 9); and so for all
arguments, of which `step` and `exec` are an instance. -/
def Obligations.StepRunsDecodedCommand : Prop :=
  ∀ (s : State) (rest : List HostOp) (v : Word) (i : Instr),
    s.script = .access (.write 0x000000#24 32 v) :: rest → decode v = .ok i →
      let u := { s with
        script := rest, granted := false, clock := if s.busy && !s.granted then s.clock + 1 else s.clock }
      (s.nextAgent Config.schedule = .host → step s = exec i u) ∧
        (∀ p : Params, s.nextAgent p.schedule = .host → s.stepWith p = execOf p.ibufBytes i u) ∧
        step s = s.stepWith Config.params ∧ exec i s = execOf Config.ibufBytes i s

/-- withFetchWord places a command where the very next step runs it, whatever the state and the schedule (log 9). -/
def Obligations.FetchWordRunsNext : Prop :=
  ∀ (s : State) (nbits w : Nat) (i : Instr), decodeTableWord nbits w = some i →
    step (s.withFetchWord nbits w) = exec i { s with granted := false } ∧
      ∀ p : Params, (s.withFetchWord nbits w).stepWith p = execOf p.ibufBytes i { s with granted := false }

/-! ### The commands -/

/-- NOP (40_command_interface R121): nothing changes; while BUSY = 1 it is discarded and sets WR_IGNORED. -/
def Obligations.NopCompletes : Prop :=
  ∀ s : State,
    (s.busy = false → exec .nop s = .next s) ∧ (s.busy = true → exec .nop s = .next { s with wrIgnored := true })

/-- DECODE (41_binary32_decoder R140): with BUSY = 0 its CMD write takes the five results from DEC_IN and CFG.F32_MODE, and
nothing else; while BUSY = 1 it is discarded; and a write to DEC_IN alone leaves the results as they are. -/
def Obligations.DecodeCompletes : Prop :=
  ∀ s : State,
    (s.busy = false → exec .decode s = .next { s with
      decInfo := 0#7 ++ ((s.decIn.extractLsb' 23 8).setWidth 9 - 127#9) ++ s.decIn.extractLsb' 23 8 ++ 0#6 ++
        BitVec.ofBool (s.decIn.extractLsb' 23 8 != 0#8) ++ s.decIn.extractLsb' 31 1
      decMant := (s.decIn.extractLsb' 0 23).setWidth 32
      decOutLo := (decodeF32 s.f32Mode s.decIn).extractLsb' 0 32
      decOutHi := (decodeF32 s.f32Mode s.decIn).extractLsb' 32 32
      err := .none
      hdrCause := .none }) ∧
      (s.busy = true → exec .decode s = .next { s with wrIgnored := true }) ∧
      ∀ (n : Nat) (w : Word), s.access n (.write 0x000010#24 32 w) = .next { s with decIn := w }

/-- PARSE with BUSY = 0 and RAW_LEN <= IBUF_BYTES (42_block_framer R180; 40_command_interface R123; 10_state R36): the job
is fixed, BUSY = 1, and nothing else changes. -/
def Obligations.ParseIsAccepted : Prop :=
  ∀ (n : Nat) (s : State), s.busy = false → s.rawLen.toNat ≤ n →
    ∃ job : Job, execOf n .parse s = .next { s with fsm := .parsing job } ∧
      (n = Config.ibufBytes → exec .parse s = .next { s with fsm := .parsing job }) ∧
      job.bytes.length = s.rawLen.toNat ∧ (∀ i < s.rawLen.toNat, job.bytes[i]? = some (ibufByte s i)) ∧
      job.mode = s.f32Mode ∧ job.policy = s.lenPolicy

/-- PARSE with BUSY = 0 and RAW_LEN > IBUF_BYTES ends at once in LEN_RANGE (42_block_framer R181, 60_exceptions R247). -/
def Obligations.ParseOutOfRange : Prop :=
  ∀ (n : Nat) (s : State), s.busy = false → n < s.rawLen.toNat →
    execOf n .parse s = .next { s with err := .lenRange, hdrCause := .none } ∧
      (n = Config.ibufBytes → exec .parse s = .next { s with err := .lenRange, hdrCause := .none }) ∧
      ErrCode.lenRange.code = 4#4

/-- NOP, DECODE, an illegal word and a PARSE that ends in LEN_RANGE have no busy phase (70_reset_and_hazards R284). -/
def Obligations.ImmediateCommandsHaveNoBusyPhase : Prop :=
  ∀ (n : Nat) (s : State), s.busy = false →
    (∃ t, exec .nop s = .next t ∧ t.busy = false) ∧ (∃ t, exec .decode s = .next t ∧ t.busy = false) ∧
      (∀ v : Word, v ≠ 0#32 → v ≠ 1#32 → v ≠ 2#32 →
        ∃ t, s.access n (.write 0x000000#24 32 v) = .next t ∧ t.busy = false) ∧
      (n < s.rawLen.toNat → ∃ t, execOf n .parse s = .next t ∧ t.busy = false)

/-- The frame of the three commands: what each may write, and that every other register, every buffer byte and entry, and
the host and the place in the schedule are left alone (40 R121, 41 R140, 42 R180, R181; while BUSY = 1 only WR_IGNORED, 40 R120). -/
def Obligations.CommandFrames : Prop :=
  ∀ (n : Nat) (i : Instr) (s t : State), (execOf n i s = .next t ∨ exec i s = .next t) →
    (i ≠ .parse → t.fsm = s.fsm) ∧
      (i = .nop → t.err = s.err ∧ t.hdrCause = s.hdrCause) ∧
      (i ≠ .decode → t.decInfo = s.decInfo ∧ t.decMant = s.decMant ∧ t.decOutLo = s.decOutLo ∧
        t.decOutHi = s.decOutHi) ∧
      (s.busy = false → t.wrIgnored = s.wrIgnored) ∧
      (s.busy = true → t = { s with wrIgnored := true }) ∧
      t.addrErr = s.addrErr ∧ t.f32Mode = s.f32Mode ∧ t.lenPolicy = s.lenPolicy ∧ t.rawLen = s.rawLen ∧
      t.decIn = s.decIn ∧ t.hdrForm = s.hdrForm ∧ t.hdrDigits = s.hdrDigits ∧ t.hdrLength = s.hdrLength ∧
      t.payloadOff = s.payloadOff ∧ t.payloadBytes = s.payloadBytes ∧ t.sampleCount = s.sampleCount ∧
      (∀ k, ibufByte t k = ibufByte s k) ∧ (∀ j, obufEntry t j = obufEntry s j) ∧
      t.script = s.script ∧ t.clock = s.clock ∧ t.granted = s.granted ∧ t.replies = s.replies ∧ t.draws = s.draws ∧ t.resets = s.resets

/-- While BUSY = 1 a write to CMD, CFG, RAW_LEN or an IBUF word is discarded: the only effect is WR_IGNORED <- 1
(40_command_interface R125). -/
def Obligations.BusyWritesAreDiscarded : Prop :=
  ∀ (n : Nat) (s : State) (a : Addr) (v : Word), s.busy = true →
    (a = 0x000000#24 ∨ a = 0x000008#24 ∨ a = 0x00000C#24 ∨
      (a.toNat % 4 = 0 ∧ 0x100000 ≤ a.toNat ∧ a.toNat < 0x100000 + n ∧ a.toNat < 0x200000)) →
    s.access n (.write a 32 v) = .next { s with wrIgnored := true }

/-- While BUSY = 1, writes to DEC_IN and STATUS have their normal effect, reads of the registers that are no PARSE result
and of IBUF return their stored values, and a read of a PARSE result or of OBUF returns some value, of which this says nothing
(40_command_interface R126). The IBUF bound holds for every legal IBUF_BYTES. -/
def Obligations.BusyAccessesWithNormalEffect : Prop :=
  ∀ (n : Nat) (s : State), s.busy = true →
    (∀ v, s.access n (.write 0x000010#24 32 v) = .next { s with decIn := v }) ∧
      (∀ v, s.access n (.write 0x000004#24 32 v) = .next { s with
        addrErr := s.addrErr && !v.getLsbD 16, wrIgnored := s.wrIgnored && !v.getLsbD 17 }) ∧
      (∀ a v, (a, v) ∈ [(0x000000#24, 0#32), (0x000004#24, s.statusWord), (0x000008#24, s.cfgWord),
          (0x00000C#24, s.rawLen), (0x000010#24, s.decIn), (0x000014#24, s.decInfo), (0x000018#24, s.decMant),
          (0x00001C#24, s.decOutLo), (0x000020#24, s.decOutHi), (0x00003C#24, BitVec.ofNat 32 n)] →
        s.access n (.read a 32) = .next { s with replies := v :: s.replies }) ∧
      (∀ k, 4 * k < n → 4 * k < 0x100000 →
        s.access n (.read (BitVec.ofNat 24 (0x100000 + 4 * k)) 32) = .next { s with
          replies := (ibufByte s (4 * k + 3) ++ ibufByte s (4 * k + 2) ++ ibufByte s (4 * k + 1) ++ ibufByte s (4 * k))
            :: s.replies }) ∧
      (∀ a : Addr, a.toNat % 4 = 0 →
        (0x24 ≤ a.toNat ∧ a.toNat ≤ 0x38 ∨
          0x200000 ≤ a.toNat ∧ a.toNat < 0x200000 + 8 * (n / 4 - 1)) →
        ∃ w t, s.access n (.read a 32) = .next t ∧ t = { s with replies := w :: s.replies, draws := t.draws })

/-! ### The framer -/

/-- What a PARSE's completion leaves, by outcome (42_block_framer R198): ERR, HDR_CAUSE, the six result registers and
OBUF, with BUSY = 0, all in one step of the unit. -/
def Obligations.CompletionResults : Prop :=
  ∀ (p : Params) (s : State) (job : Job), s.fsm = .parsing job → s.nextAgent p.schedule = .unit →
    ∃ t, s.stepWith p = .next t ∧ t.busy = false ∧
      match parseBlock job with
      | .malformed c =>
        t.err.code = 1#4 ∧ t.hdrCause = c ∧ c ≠ .none ∧ t.hdrForm = 0#32 ∧ t.hdrDigits = 0#32 ∧
          t.hdrLength = 0#32 ∧ t.payloadOff = 0#32 ∧ t.payloadBytes = 0#32 ∧ t.sampleCount = 0#32 ∧
          ∀ j, obufEntry t j = obufEntry s j
      | .lengthMismatch h pb =>
        t.err.code = 3#4 ∧ t.hdrCause = .none ∧ t.hdrForm = (if h.form = .paren then 1#32 else 0#32) ∧
          t.hdrDigits.toNat = min h.digits (2 ^ 32 - 1) ∧ t.hdrLength.toNat = min h.length (2 ^ 32 - 1) ∧
          t.payloadOff.toNat = min h.offset (2 ^ 32 - 1) ∧ t.payloadBytes.toNat = min pb (2 ^ 32 - 1) ∧
          t.sampleCount = 0#32 ∧ ∀ j, obufEntry t j = obufEntry s j
      | .tooShort h pb samples =>
        t.err.code = 2#4 ∧ t.hdrCause = .none ∧ t.hdrForm = (if h.form = .paren then 1#32 else 0#32) ∧
          t.hdrDigits.toNat = min h.digits (2 ^ 32 - 1) ∧ t.hdrLength.toNat = min h.length (2 ^ 32 - 1) ∧
          t.payloadOff.toNat = min h.offset (2 ^ 32 - 1) ∧ t.payloadBytes.toNat = min pb (2 ^ 32 - 1) ∧
          t.sampleCount.toNat = min (pb / 4) (2 ^ 32 - 1) ∧
          ∀ j, obufEntry t j = if j < pb / 4 then samples.getD j 0#64 else obufEntry s j
      | .success h pb samples =>
        t.err.code = 0#4 ∧ t.hdrCause = .none ∧ t.hdrForm = (if h.form = .paren then 1#32 else 0#32) ∧
          t.hdrDigits.toNat = min h.digits (2 ^ 32 - 1) ∧ t.hdrLength.toNat = min h.length (2 ^ 32 - 1) ∧
          t.payloadOff.toNat = min h.offset (2 ^ 32 - 1) ∧ t.payloadBytes.toNat = min pb (2 ^ 32 - 1) ∧
          t.sampleCount.toNat = min (pb / 4) (2 ^ 32 - 1) ∧
          ∀ j, obufEntry t j = if j < pb / 4 then samples.getD j 0#64 else obufEntry s j

/-- A completion never writes IBUF, RAW_LEN, CFG, DEC_IN, a DEC_* result register or a sticky flag, and of
the model's own fields moves only the place in the schedule (42_block_framer R199, 60_exceptions R249; log 5). -/
def Obligations.CompletionFrame : Prop :=
  ∀ (p : Params) (s t : State) (job : Job), s.fsm = .parsing job → s.nextAgent p.schedule = .unit →
    s.stepWith p = .next t →
    t.rawLen = s.rawLen ∧ t.f32Mode = s.f32Mode ∧ t.lenPolicy = s.lenPolicy ∧ t.decIn = s.decIn ∧
      t.decInfo = s.decInfo ∧ t.decMant = s.decMant ∧ t.decOutLo = s.decOutLo ∧ t.decOutHi = s.decOutHi ∧
      t.addrErr = s.addrErr ∧ t.wrIgnored = s.wrIgnored ∧
      (∀ i, ibufByte t i = ibufByte s i) ∧ t.script = s.script ∧ t.clock = s.clock + 1 ∧ t.granted = false ∧
      t.replies = s.replies ∧ t.draws = s.draws ∧ t.resets = s.resets

/-- Two PARSEs of the same job give bit-identical outcomes, result registers and samples, whatever else the two units
hold, whatever their sizes and schedules (42_block_framer R199). -/
def Obligations.ParseIsFunctionOfJob : Prop :=
  ∀ (p₁ p₂ : Params) (s₁ s₂ t₁ t₂ : State) (job : Job),
    s₁.fsm = .parsing job → s₂.fsm = .parsing job →
    s₁.nextAgent p₁.schedule = .unit → s₂.nextAgent p₂.schedule = .unit →
    s₁.stepWith p₁ = .next t₁ → s₂.stepWith p₂ = .next t₂ →
    t₁.err = t₂.err ∧ t₁.hdrCause = t₂.hdrCause ∧ t₁.hdrForm = t₂.hdrForm ∧ t₁.hdrDigits = t₂.hdrDigits ∧
      t₁.hdrLength = t₂.hdrLength ∧ t₁.payloadOff = t₂.payloadOff ∧ t₁.payloadBytes = t₂.payloadBytes ∧
      t₁.sampleCount = t₂.sampleCount ∧ ∀ j < t₁.sampleCount.toNat, obufEntry t₁ j = obufEntry t₂ j

/-- A PARSE fixes no byte at index RAW_LEN or above: two units that agree on RAW_LEN, CFG and the bytes below RAW_LEN get the
same job (20_memory R79, 40_command_interface R123). -/
def Obligations.BytesPastRawLenIgnored : Prop :=
  ∀ (n : Nat) (s₁ s₂ : State), s₁.busy = false → s₂.busy = false → s₁.rawLen = s₂.rawLen → s₁.f32Mode = s₂.f32Mode →
    s₁.lenPolicy = s₂.lenPolicy → s₁.rawLen.toNat ≤ n →
    (∀ i < s₁.rawLen.toNat, ibufByte s₁ i = ibufByte s₂ i) →
    ∃ job, execOf n .parse s₁ = .next { s₁ with fsm := .parsing job } ∧
      execOf n .parse s₂ = .next { s₂ with fsm := .parsing job }

/-- The header parses exactly when the buffer matches the framing grammar, with the header's values those of the grammar
(30_encoding R94, R95, R96). -/
def Obligations.HeaderMatchesGrammar : Prop :=
  ∀ (bytes rest : List Byte) (h : Header), parseHeader bytes = .ok (h, rest) ↔ Framed bytes h rest

/-- The outcome is MALFORMED_HEADER(NO_MARKER) exactly for an empty buffer or one whose first byte is not '#'
(42_block_framer R182). -/
def Obligations.MarkerIsRequired : Prop :=
  ∀ job : Job, parseBlock job = .malformed .noMarker ↔ (job.bytes = [] ∨ ∃ c, job.bytes.head? = some c ∧ c ≠ 0x23#8)

/-- The plain count part (42_block_framer R183): n = 1 is TRUNCATED; a byte 1 that is not a digit (and not '(') is
BAD_DIGIT; a digit is digit_count, and the length part starts at index 2; the shortest header is `#0`. -/
def Obligations.PlainCountPart : Prop :=
  parseHeader [0x23#8] = .error .truncated ∧
    (∃ h payload, parseHeader [0x23#8, 0x30#8] = .ok (h, payload)) ∧
    (∀ bytes h payload, parseHeader bytes = .ok (h, payload) → 2 ≤ bytes.length) ∧
    ∀ (c : Byte) (rest : List Byte), c ≠ 0x28#8 →
      (¬(0x30 ≤ c.toNat ∧ c.toNat ≤ 0x39) → parseHeader (0x23#8 :: c :: rest) = .error .badDigit) ∧
        (0x30 ≤ c.toNat → c.toNat ≤ 0x39 → ∀ h payload, parseHeader (0x23#8 :: c :: rest) = .ok (h, payload) →
          h.form = .plain ∧ h.digits = c.toNat - 0x30 ∧ h.digits ≤ 9 ∧ h.offset = 2 + h.digits)

/-- The parenthesised count part (42_block_framer R184), for every run of digits `ds` after '(': `)` after at least one
digit ends it with digit_count the numeral's value; `)` at once is BAD_DIGIT; any other byte that is not a digit is
BAD_DIGIT; the end of the buffer is NO_CLOSE_PAREN. -/
def Obligations.ParenCountPart : Prop :=
  ∀ ds : List Byte, allDigits ds →
    (ds ≠ [] → ∀ after h payload,
      parseHeader (0x23#8 :: 0x28#8 :: ds ++ 0x29#8 :: after) = .ok (h, payload) →
        h.form = .paren ∧ h.digits = numeral ds ∧ h.offset = 3 + ds.length + numeral ds) ∧
      (∀ after, parseHeader (0x23#8 :: 0x28#8 :: 0x29#8 :: after) = .error .badDigit) ∧
      (∀ c after, isDigit c = false → c ≠ 0x29#8 →
        parseHeader (0x23#8 :: 0x28#8 :: ds ++ c :: after) = .error .badDigit) ∧
      parseHeader (0x23#8 :: 0x28#8 :: ds) = .error .noCloseParen

/-- The length part (42_block_framer R186), after a count part of either form: digit_count digits give declared_length and
the payload's start; fewer before the end of the buffer is TRUNCATED; a byte that is not a digit before that is
BAD_DIGIT. -/
def Obligations.LengthPart : Prop :=
  ∀ (form : HdrForm) (dc : Nat) (count ds : List Byte), CountPart form dc count → allDigits ds →
    (ds.length = dc → ∀ after, parseHeader (0x23#8 :: count ++ ds ++ after) =
      .ok (⟨form, dc, numeral ds, 1 + count.length + dc⟩, after)) ∧
      (ds.length < dc → parseHeader (0x23#8 :: count ++ ds) = .error .truncated) ∧
      (ds.length < dc → ∀ c after, isDigit c = false →
        parseHeader (0x23#8 :: count ++ ds ++ c :: after) = .error .badDigit)

/-- payload_offset is 2 + digit_count for the plain form, and the index of the first ')' + 1 + digit_count for the
parenthesised form; it never passes the end of the buffer, and the payload is what stands from there on
(42_block_framer R190). -/
def Obligations.PayloadOffset : Prop :=
  ∀ (bytes payload : List Byte) (h : Header), parseHeader bytes = .ok (h, payload) →
    (h.form = .plain → h.offset = 2 + h.digits) ∧
      (h.form = .paren → ∃ i, 2 ≤ i ∧ bytes[i]? = some 0x29#8 ∧ (∀ k, 2 ≤ k → k < i → bytes[k]? ≠ some 0x29#8) ∧
        h.offset = i + 1 + h.digits) ∧
      h.offset ≤ bytes.length ∧ payload = bytes.drop h.offset

/-- The outcome of a PARSE whose job was accepted, in the fixed order of checks (60_exceptions R251, 42_block_framer R192 to
R197): a header failure, then LENGTH_MISMATCH only under STRICT with a declared length, then PAYLOAD_TOO_SHORT below 10
samples, then NONE. -/
def Obligations.OutcomeOrder : Prop :=
  ∀ job : Job,
    (∀ c, parseHeader job.bytes = .error c → parseBlock job = .malformed c) ∧
      ∀ h payload, parseHeader job.bytes = .ok (h, payload) →
        let pb := job.bytes.length - 1 - h.offset
        if job.policy = .strict ∧ h.digits ≠ 0 ∧ h.length ≠ pb then parseBlock job = .lengthMismatch h pb
        else if pb / 4 < 10 then ∃ samples, parseBlock job = .tooShort h pb samples
        else ∃ samples, parseBlock job = .success h pb samples

/-- Sample j is decode_f32 of the four bytes at payload_offset + 4j, little-endian; there are PAYLOAD_BYTES div 4 of them,
and none reads the trailing byte (42_block_framer R195, R193). -/
def Obligations.SamplesAreChunks : Prop :=
  ∀ (job : Job) (h : Header) (pb : Nat) (samples : List DWord),
    (parseBlock job = .tooShort h pb samples ∨ parseBlock job = .success h pb samples) →
      samples.length = pb / 4 ∧
        ∀ j < pb / 4, h.offset + 4 * j + 3 < job.bytes.length - 1 ∧
          samples[j]? = some (decodeF32 job.mode
            (job.bytes.getD (h.offset + 4 * j + 3) 0#8 ++ job.bytes.getD (h.offset + 4 * j + 2) 0#8 ++
              job.bytes.getD (h.offset + 4 * j + 1) 0#8 ++ job.bytes.getD (h.offset + 4 * j) 0#8))

/-- No PARSE of a job that fits IBUF produces more than OBUF_SAMPLES = IBUF_BYTES / 4 - 1 samples, and some PARSE produces
that many (00_scope R14). -/
def Obligations.ObufNeverOverflows : Prop :=
  ∀ n : Nat, ibufBytesLegal n = true →
    (∀ (job : Job) (h : Header) (pb : Nat) (samples : List DWord), job.bytes.length ≤ n →
      (parseBlock job = .tooShort h pb samples ∨ parseBlock job = .success h pb samples) →
      samples.length ≤ n / 4 - 1) ∧
      ∃ (job : Job) (h : Header) (pb : Nat) (samples : List DWord), job.bytes.length = n ∧
        (parseBlock job = .tooShort h pb samples ∨ parseBlock job = .success h pb samples) ∧
        samples.length = n / 4 - 1

/-- A parenthesised header with the same digit_count and the same bytes after the count part gives the same outcome, counts
and samples as the plain one; only HDR_FORM differs, and PAYLOAD_OFF by 1 + the number of digits between the parentheses
(42_block_framer R200). -/
def Obligations.FormsAgree : Prop :=
  ∀ (mode : F32Mode) (policy : LenPolicy) (c : Byte) (ds tail : List Byte),
    isDigit c = true → ds ≠ [] → allDigits ds → numeral ds = digitVal c →
      SameButForm (1 + ds.length) (parseBlock ⟨0x23#8 :: c :: tail, mode, policy⟩)
        (parseBlock ⟨0x23#8 :: 0x28#8 :: ds ++ 0x29#8 :: tail, mode, policy⟩) ∧
      ∀ s : State,
        let t := s.complete ⟨0x23#8 :: c :: tail, mode, policy⟩
        let u := s.complete ⟨0x23#8 :: 0x28#8 :: ds ++ 0x29#8 :: tail, mode, policy⟩
        u.err = t.err ∧ u.hdrCause = t.hdrCause ∧ u.hdrDigits = t.hdrDigits ∧ u.hdrLength = t.hdrLength ∧
          u.payloadBytes = t.payloadBytes ∧ u.sampleCount = t.sampleCount ∧ u.obuf = t.obuf

/-- The trailing byte is dropped whatever its value: once the header fits before it, the outcome does not depend on it
(42_block_framer R191). -/
def Obligations.TrailingByteIsDropped : Prop :=
  ∀ (bytes payload : List Byte) (h : Header) (b b' : Byte) (mode : F32Mode) (policy : LenPolicy),
    parseHeader bytes = .ok (h, payload) →
      parseBlock ⟨bytes ++ [b], mode, policy⟩ = parseBlock ⟨bytes ++ [b'], mode, policy⟩

/-! ### The decoder -/

/-- The fields of a binary32 word, by the source's bytes, use each bit once (30_encoding R91). -/
def Obligations.FieldsOfBinary32 : Prop :=
  ∀ b0 b1 b2 b3 : Byte,
    f32Sign (b3 ++ b2 ++ b1 ++ b0) = b3.getLsbD 7 ∧
      f32Exp (b3 ++ b2 ++ b1 ++ b0) = ((b3.extractLsb' 0 7).setWidth 8 <<< 1) ||| (b2.extractLsb' 7 1).setWidth 8 ∧
      f32Mant (b3 ++ b2 ++ b1 ++ b0) =
        ((b2.extractLsb' 0 7).setWidth 23 <<< 16) ||| (b1.setWidth 23 <<< 8) ||| b0.setWidth 23 ∧
      BitVec.ofBool (f32Sign (b3 ++ b2 ++ b1 ++ b0)) ++ f32Exp (b3 ++ b2 ++ b1 ++ b0) ++
        f32Mant (b3 ++ b2 ++ b1 ++ b0) = b3 ++ b2 ++ b1 ++ b0

/-- MANUAL mode's result is exact: it is a normal binary64 number or a signed zero, and its value is
sgn * 2^(E - 127) * frac with frac the source's sum (41_binary32_decoder R143, R144), which is
sgn * 2^(E - 127) * (1 + M * 2^-23) for E >= 1 and sgn * M * 2^-150 for E = 0. -/
def Obligations.ManualValueIsExact : Prop :=
  ∀ w : Word,
    f64Plain (decodeF32 .manual w) = true ∧ f64Value (decodeF32 .manual w) = manualValue w ∧
      manualFrac w = (if f32Lead w then 1 else 0) + (f32Mant w).toNat * 2 ^ (-23 : ℤ) ∧
      (f32Exp w ≠ 0#8 → manualValue w =
        signValue (f32Sign w) * 2 ^ ((f32Exp w).toNat - 127 : ℤ) * (1 + (f32Mant w).toNat * 2 ^ (-23 : ℤ))) ∧
      (f32Exp w = 0#8 → manualValue w = signValue (f32Sign w) * (f32Mant w).toNat * 2 ^ (-150 : ℤ))

/-- MANUAL mode's bit pattern, case by case, with p the index of M's highest set bit (41_binary32_decoder R146). -/
def Obligations.ManualBitPatterns : Prop :=
  ∀ w : Word,
    (f32Exp w = 0#8 → f32Mant w = 0#23 → decodeF32 .manual w = BitVec.ofBool (f32Sign w) ++ 0#11 ++ 0#52) ∧
      (∀ p, f32Exp w = 0#8 → (f32Mant w).getLsbD p = true → (∀ q, p < q → (f32Mant w).getLsbD q = false) →
        p ≤ 22 ∧ decodeF32 .manual w = BitVec.ofBool (f32Sign w) ++ BitVec.ofNat 11 (p + 873) ++
          BitVec.ofNat 52 (((f32Mant w).toNat - 2 ^ p) * 2 ^ (52 - p))) ∧
      (f32Exp w ≠ 0#8 → decodeF32 .manual w = BitVec.ofBool (f32Sign w) ++
        BitVec.ofNat 11 ((f32Exp w).toNat + 896) ++ BitVec.ofNat 52 ((f32Mant w).toNat * 2 ^ 29))

/-- NATIVE mode's bit pattern, case by case, a NaN being any word with exponent 0x7FF and a nonzero fraction
(41_binary32_decoder R149, R150). -/
def Obligations.NativeBitPatterns : Prop :=
  ∀ w : Word,
    (f32Exp w = 0#8 → f32Mant w = 0#23 → decodeF32 .native w = BitVec.ofBool (f32Sign w) ++ 0#11 ++ 0#52) ∧
      (∀ p, f32Exp w = 0#8 → (f32Mant w).getLsbD p = true → (∀ q, p < q → (f32Mant w).getLsbD q = false) →
        decodeF32 .native w = BitVec.ofBool (f32Sign w) ++ BitVec.ofNat 11 (p + 874) ++
          BitVec.ofNat 52 (((f32Mant w).toNat - 2 ^ p) * 2 ^ (52 - p))) ∧
      (f32Exp w ≠ 0#8 → f32Exp w ≠ 255#8 → decodeF32 .native w = decodeF32 .manual w) ∧
      (f32Exp w = 255#8 → f32Mant w = 0#23 →
        decodeF32 .native w = BitVec.ofBool (f32Sign w) ++ 0x7FF#11 ++ 0#52) ∧
      (f32Exp w = 255#8 → f32Mant w ≠ 0#23 →
        (decodeF32 .native w).extractLsb' 52 11 = 0x7FF#11 ∧ (decodeF32 .native w).extractLsb' 0 52 ≠ 0#52)

/-- NATIVE mode widens every finite word exactly (41_binary32_decoder R149). -/
def Obligations.NativeValueIsExact : Prop :=
  ∀ w : Word, f32Exp w ≠ 255#8 →
    f64Plain (decodeF32 .native w) = true ∧ f64Value (decodeF32 .native w) = ieeeValue w

/-- The two modes give the same result for every normal word and every zero, and for no other word
(41_binary32_decoder R151). -/
def Obligations.ModesAgree : Prop :=
  ∀ w : Word, decodeF32 .manual w = decodeF32 .native w ↔
    ((f32Exp w ≠ 0#8 ∧ f32Exp w ≠ 255#8) ∨ (f32Exp w = 0#8 ∧ f32Mant w = 0#23))

/-- What MANUAL does with denormals, infinities and NaNs (41_binary32_decoder R148): half the IEEE value; the finite value
sgn * 2^128; a finite value that keeps the sign and M. -/
def Obligations.ManualSpecialClasses : Prop :=
  ∀ w : Word,
    (f32Exp w = 0#8 → f32Mant w ≠ 0#23 →
      f64Value (decodeF32 .manual w) = signValue (f32Sign w) * (f32Mant w).toNat * 2 ^ (-150 : ℤ) ∧
        2 * f64Value (decodeF32 .manual w) = ieeeValue w) ∧
      (f32Exp w = 255#8 → f32Mant w = 0#23 →
        decodeF32 .manual w = BitVec.ofBool (f32Sign w) ++ 0x47F#11 ++ 0#52 ∧
          f64Value (decodeF32 .manual w) = signValue (f32Sign w) * 2 ^ 128) ∧
      (f32Exp w = 255#8 → f32Mant w ≠ 0#23 →
        decodeF32 .manual w =
            BitVec.ofBool (f32Sign w) ++ 0x47F#11 ++ BitVec.ofNat 52 ((f32Mant w).toNat * 2 ^ 29) ∧
          f64Value (decodeF32 .manual w) =
            signValue (f32Sign w) * 2 ^ 128 * (1 + (f32Mant w).toNat * 2 ^ (-23 : ℤ)))

/-- +0.0 and -0.0 in both modes (41_binary32_decoder R147). -/
def Obligations.SignedZero : Prop :=
  ∀ mode : F32Mode, decodeF32 mode 0x00000000#32 = 0x0000000000000000#64 ∧
    decodeF32 mode 0x80000000#32 = 0x8000000000000000#64

/-! ### The bus -/

/-- An access that is not admitted only sets ADDR_ERR, and a read returns 0; a read of CMD, a write to STATUS and a write
discarded for BUSY are admitted and never set it (20_memory R64). -/
def Obligations.AccessNotAdmitted : Prop :=
  ∀ (n : Nat) (s : State) (a : Addr) (size : Nat) (v : Word),
    ((size ≠ 32 ∨ a.toNat % 4 ≠ 0 ∨ (0x40 ≤ a.toNat ∧ a.toNat < 0x100000) ∨
        (0x100000 + n ≤ a.toNat ∧ a.toNat < 0x200000) ∨
        0x200000 + 8 * (n / 4 - 1) ≤ a.toNat) →
      s.access n (.read a size) = .next { s with addrErr := true, replies := 0#32 :: s.replies } ∧
        s.access n (.write a size v) = .next { s with addrErr := true }) ∧
      ((0x14 ≤ a.toNat ∧ a.toNat < 0x40) →
        s.access n (.write a size v) = .next { s with addrErr := true }) ∧
      ((0x200000 ≤ a.toNat ∧ a.toNat < 0x200000 + 8 * (n / 4 - 1)) →
        s.access n (.write a size v) = .next { s with addrErr := true }) ∧
      s.access n (.read 0x000000#24 32) = .next { s with replies := 0#32 :: s.replies } ∧
      (∀ t, s.access n (.write 0x000004#24 32 v) = .next t → t.addrErr = true → s.addrErr = true) ∧
      (s.busy = true → (a = 0x000000#24 ∨ a = 0x000008#24 ∨ a = 0x00000C#24 ∨
          (a.toNat % 4 = 0 ∧ 0x100000 ≤ a.toNat ∧ a.toNat < 0x100000 + n ∧ a.toNat < 0x200000)) →
        ∀ t, s.access n (.write a 32 v) = .next t → t.addrErr = s.addrErr)

/-- The address map's registers: with BUSY = 0 a 32-bit read of each returns what it holds (20_memory R62; 10_state R22 to
R37), CMD reading 0 and IBUF_SIZE the constant IBUF_BYTES. -/
def Obligations.RegisterReads : Prop :=
  ∀ (n : Nat) (s : State), s.busy = false →
    ∀ a v, (a, v) ∈ [(0x000000#24, 0#32), (0x000004#24, s.statusWord), (0x000008#24, s.cfgWord),
        (0x00000C#24, s.rawLen), (0x000010#24, s.decIn), (0x000014#24, s.decInfo), (0x000018#24, s.decMant),
        (0x00001C#24, s.decOutLo), (0x000020#24, s.decOutHi), (0x000024#24, s.hdrForm), (0x000028#24, s.hdrDigits),
        (0x00002C#24, s.hdrLength), (0x000030#24, s.payloadOff), (0x000034#24, s.payloadBytes),
        (0x000038#24, s.sampleCount), (0x00003C#24, BitVec.ofNat 32 n)] →
      s.access n (.read a 32) = .next { s with replies := v :: s.replies }

/-- The IBUF window (20_memory R63): word k is bytes 4k to 4k + 3, little-endian, readable at any time; a write stores the
four bytes and leaves every other byte and everything else alone, and while BUSY = 1 it is discarded. -/
def Obligations.IbufWindow : Prop :=
  ∀ (n : Nat) (s : State) (k : Nat) (v : Word), ibufBytesLegal n = true → 4 * k < n →
    s.access n (.read (BitVec.ofNat 24 (0x100000 + 4 * k)) 32) = .next { s with
      replies := (ibufByte s (4 * k + 3) ++ ibufByte s (4 * k + 2) ++ ibufByte s (4 * k + 1) ++ ibufByte s (4 * k))
        :: s.replies } ∧
      (s.busy = true → s.access n (.write (BitVec.ofNat 24 (0x100000 + 4 * k)) 32 v) =
        .next { s with wrIgnored := true }) ∧
      (s.busy = false → ∃ t, s.access n (.write (BitVec.ofNat 24 (0x100000 + 4 * k)) 32 v) = .next t ∧
        t = { s with ibuf := t.ibuf } ∧
        (∀ b < 4, ibufByte t (4 * k + b) = v.extractLsb' (8 * b) 8) ∧
        (∀ i, (i < 4 * k ∨ 4 * k + 4 ≤ i) → ibufByte t i = ibufByte s i) ∧
        t.access n (.read (BitVec.ofNat 24 (0x100000 + 4 * k)) 32) = .next { t with replies := v :: t.replies })

/-- The OBUF window with BUSY = 0 (20_memory R65, R66): the low half of entry j at 0x200000 + 8j, the high half 4 above. What
an entry that no PARSE has written reads as is the model's free value (log 1), of which this says nothing. -/
def Obligations.ObufWindow : Prop :=
  ∀ (n : Nat) (s : State) (j : Nat), s.busy = false → ibufBytesLegal n = true → j < n / 4 - 1 →
    s.access n (.read (BitVec.ofNat 24 (0x200000 + 8 * j)) 32) =
        .next { s with replies := (obufEntry s j).extractLsb' 0 32 :: s.replies } ∧
      s.access n (.read (BitVec.ofNat 24 (0x200000 + 8 * j + 4)) 32) =
        .next { s with replies := (obufEntry s j).extractLsb' 32 32 :: s.replies }

/-- The STATUS register (10_state R23): its fields at their bits with the reserved bits 0, and a write whose only effect is
to clear bits 16 and 17 where it has a 1, at any time; every bit is 0 after reset. -/
def Obligations.StatusRegister : Prop :=
  ∀ (n : Nat) (s : State),
    (s.statusWord.getLsbD 0 = s.busy ∧ s.statusWord.extractLsb' 1 3 = 0#3 ∧
      s.statusWord.extractLsb' 4 4 = s.err.code ∧ s.statusWord.extractLsb' 8 3 = s.hdrCause.code ∧
      s.statusWord.extractLsb' 11 5 = 0#5 ∧ s.statusWord.getLsbD 16 = s.addrErr ∧
      s.statusWord.getLsbD 17 = s.wrIgnored ∧ s.statusWord.extractLsb' 18 14 = 0#14) ∧
      (∀ v : Word, ∃ t, s.access n (.write 0x000004#24 32 v) = .next t ∧
        t = { s with addrErr := t.addrErr, wrIgnored := t.wrIgnored } ∧
        t.statusWord = s.statusWord &&& ~~~(v &&& 0x00030000#32)) ∧
      State.reset.statusWord = 0#32

/-- The numeric codes of outcomes and causes (10_state R25, R26). -/
def Obligations.OutcomeCodes : Prop :=
  ErrCode.none.code = 0#4 ∧ ErrCode.malformedHeader.code = 1#4 ∧ ErrCode.payloadTooShort.code = 2#4 ∧
    ErrCode.lengthMismatch.code = 3#4 ∧ ErrCode.lenRange.code = 4#4 ∧ ErrCode.illegalCmd.code = 5#4 ∧
    HdrCause.none.code = 0#3 ∧ HdrCause.noMarker.code = 1#3 ∧ HdrCause.truncated.code = 2#3 ∧
    HdrCause.badDigit.code = 3#3 ∧ HdrCause.noCloseParen.code = 4#3

/-- CFG, RAW_LEN and DEC_IN as registers the host writes (10_state R29, R30, R31): CFG keeps bits 0 and 1, the others every
bit; CFG and RAW_LEN discard a write while BUSY = 1, DEC_IN takes it. -/
def Obligations.ConfigurationWrites : Prop :=
  ∀ (n : Nat) (s : State) (v : Word),
    (s.busy = false → ∃ t, s.access n (.write 0x000008#24 32 v) = .next t ∧
      t = { s with f32Mode := t.f32Mode, lenPolicy := t.lenPolicy } ∧ (t.f32Mode = .native ↔ v.getLsbD 0 = true) ∧
      (t.lenPolicy = .strict ↔ v.getLsbD 1 = true) ∧ t.cfgWord = v &&& 0x00000003#32) ∧
      (s.busy = false → s.access n (.write 0x00000C#24 32 v) = .next { s with rawLen := v }) ∧
      (s.busy = true → s.access n (.write 0x000008#24 32 v) = .next { s with wrIgnored := true } ∧
        s.access n (.write 0x00000C#24 32 v) = .next { s with wrIgnored := true }) ∧
      s.access n (.write 0x000010#24 32 v) = .next { s with decIn := v }

/-- Reads have no side effects, and every access except a CMD write is idempotent (20_memory R70): a read of any place
changes at most ADDR_ERR (when it is not admitted) beside what the host and the draws record; a second write of the same
data to the same place changes nothing more. -/
def Obligations.AccessesAreIdempotent : Prop :=
  ∀ (n : Nat) (s : State) (a : Addr) (size : Nat) (v : Word),
    (∃ t, s.access n (.read a size) = .next t ∧
      t = { s with addrErr := t.addrErr, replies := t.replies, draws := t.draws } ∧
      (locate n a ≠ none → size = 32 → t.addrErr = s.addrErr)) ∧
      (¬(size = 32 ∧ a = 0x000000#24) →
        ∀ t, s.access n (.write a size v) = .next t → t.access n (.write a size v) = .next t)

/-! ### The whole machine -/

/-- The unit never traps and never hangs: a step answers a next state in every state, for the instance and for all arguments
(00_scope R10, 60_exceptions R240). That reads of never-written buffer entries go on too is the model's choice of the
admitted draw (log 1). -/
def Obligations.StepNeverStops : Prop :=
  ∀ s : State, (∃ t, step s = .next t) ∧ ∀ p : Params, ∃ t, s.stepWith p = .next t

/-- Every step keeps the machine's invariant: the buffers stay in canonical form within their capacities, HDR_CAUSE is
nonzero exactly when ERR = MALFORMED_HEADER, the job of a PARSE stays what IBUF, RAW_LEN and CFG hold, reserved bits stay
0, and the sample count fits OBUF. -/
def Obligations.StepKeepsInvariant : Prop :=
  (∀ s t : State, s.Inv Config.ibufBytes → step s = .next t → t.Inv Config.ibufBytes) ∧
    ∀ (p : Params) (s t : State), p.legal = true → s.Inv p.ibufBytes → s.stepWith p = .next t → t.Inv p.ibufBytes

/-- While a PARSE is in progress no step changes its job's sources: IBUF[0 .. RAW_LEN - 1], RAW_LEN and CFG
(10_state R36, 40_command_interface R123). -/
def Obligations.StepKeepsJobFixed : Prop :=
  (∀ s t : State, s.jobFixed Config.ibufBytes → step s = .next t → t.jobFixed Config.ibufBytes) ∧
    ∀ (p : Params) (s t : State), s.jobFixed p.ibufBytes → s.stepWith p = .next t → t.jobFixed p.ibufBytes

/-- The invariant holds after reset, for every IBUF_BYTES; and the instance's IBUF_BYTES is a legal one, whichever it is
(log 2). -/
def Obligations.InvariantAtReset : Prop :=
  (∀ n, State.reset.Inv n) ∧ Config.params.legal = true

/-- The reset state (70_reset_and_hazards R271), for every IBUF_BYTES `n`: every register 0, fsm IDLE, CMD reading 0 and
IBUF_SIZE the constant. The buffers' contents are unspecified, so of them this says nothing. -/
def Obligations.ResetState : Prop :=
  ∀ n : Nat,
    State.reset.statusWord = 0#32 ∧ State.reset.cfgWord = 0#32 ∧ State.reset.f32Mode = .manual ∧
      State.reset.lenPolicy = .lenient ∧ State.reset.rawLen = 0#32 ∧ State.reset.decIn = 0#32 ∧
      State.reset.decInfo = 0#32 ∧ State.reset.decMant = 0#32 ∧ State.reset.decOutLo = 0#32 ∧
      State.reset.decOutHi = 0#32 ∧ State.reset.hdrForm = 0#32 ∧ State.reset.hdrDigits = 0#32 ∧
      State.reset.hdrLength = 0#32 ∧ State.reset.payloadOff = 0#32 ∧
      State.reset.payloadBytes = 0#32 ∧ State.reset.sampleCount = 0#32 ∧ State.reset.fsm = .idle ∧
      State.reset.access n (.read 0x000000#24 32) =
        .next { State.reset with replies := 0#32 :: State.reset.replies } ∧
      State.reset.access n (.read 0x00003C#24 32) =
        .next { State.reset with replies := BitVec.ofNat 32 n :: State.reset.replies }

/-- A reset event, at any point between host accesses and also while BUSY = 1 (70_reset_and_hazards R270, R272): the unit is
in the reset state, a PARSE in progress is abandoned with no outcome recorded and no entry written, and the buffers are
unspecified anew. That the host's side of the state and the place in the schedule stay, and that `resets` counts the
event, is the model's choice (log 7, log 5). -/
def Obligations.ResetEvent : Prop :=
  ∀ (p : Params) (s : State) (rest : List HostOp), s.nextAgent p.schedule = .host → s.script = .reset :: rest →
    s.stepWith p = .next { State.reset with
      script := rest, replies := s.replies, draws := s.draws, resets := s.resets + 1
      clock := if s.busy && !s.granted then s.clock + 1 else s.clock }

/-- DEC_INFO, DEC_MANT, DEC_OUT_LO and DEC_OUT_HI change only at a DECODE command or at reset (70_reset_and_hazards R280,
41_binary32_decoder R152). -/
def Obligations.DecodeResultsChangeOnlyByDecode : Prop :=
  ∀ (p : Params) (s t : State), s.stepWith p = .next t →
    (t.decInfo = s.decInfo ∧ t.decMant = s.decMant ∧ t.decOutLo = s.decOutLo ∧ t.decOutHi = s.decOutHi) ∨
      (s.nextAgent p.schedule = .host ∧ s.busy = false ∧
        s.script.head? = some (.access (.write 0x000000#24 32 0x00000001#32)) ∧
        exec .decode { s with script := s.script.tail, granted := false } = .next t) ∨
      (s.nextAgent p.schedule = .host ∧ s.script.head? = some .reset ∧ t.decInfo = 0#32 ∧ t.decMant = 0#32 ∧
        t.decOutLo = 0#32 ∧ t.decOutHi = 0#32)

/-- While BUSY stays 1, no step changes ERR, HDR_CAUSE, the job, the result registers or OBUF (10_state R25, R35;
70_reset_and_hazards R283: the completion writes all at once). -/
def Obligations.ResultsHeldWhileBusy : Prop :=
  ∀ (p : Params) (s t : State), s.busy = true → s.stepWith p = .next t → t.busy = true →
    t.fsm = s.fsm ∧ t.err = s.err ∧ t.hdrCause = s.hdrCause ∧ t.hdrForm = s.hdrForm ∧ t.hdrDigits = s.hdrDigits ∧
      t.hdrLength = s.hdrLength ∧ t.payloadOff = s.payloadOff ∧ t.payloadBytes = s.payloadBytes ∧
      t.sampleCount = s.sampleCount ∧ ∀ j, obufEntry t j = obufEntry s j

/-- BUSY rises only at the acceptance of a PARSE, and falls only at its completion or at reset (10_state R24,
40_command_interface R124). -/
def Obligations.BusyRisesAndFalls : Prop :=
  ∀ (p : Params) (s t : State), s.stepWith p = .next t →
    (s.busy = false → t.busy = true → s.nextAgent p.schedule = .host ∧ s.rawLen.toNat ≤ p.ibufBytes ∧
      s.script.head? = some (.access (.write 0x000000#24 32 0x00000002#32))) ∧
      (s.busy = true → t.busy = false → s.nextAgent p.schedule = .unit ∨
        (s.nextAgent p.schedule = .host ∧ s.script.head? = some .reset))

/-- Every PARSE ends (70_reset_and_hazards R283, 00_scope R11): under every schedule that is fair to the unit, a state with
BUSY = 1 reaches BUSY = 0; and where the schedule's choice number `m`, not taken yet, is the unit's, within one step for
each choice up to it and one more for an access already granted. That the choices are numbered, and that a granted access
comes before one, is the model's (log 5, log 9). -/
def Obligations.ParseEnds : Prop :=
  ∀ (p : Params) (s : State), s.busy = true →
    (Fair p.schedule → ∃ k t, (coreOf p).run k s = .next t ∧ t.busy = false) ∧
      ∀ m, s.clock ≤ m → p.schedule m = .unit →
        ∃ k ≤ m - s.clock + 2, ∃ t, (coreOf p).run k s = .next t ∧ t.busy = false

/-- A step changes a byte of IBUF only where the host writes the word holding it with BUSY = 0, or resets the unit
(10_state R38). -/
def Obligations.IbufWrittenOnlyByHost : Prop :=
  ∀ (p : Params) (s t : State) (i : Nat), s.stepWith p = .next t → ibufByte t i ≠ ibufByte s i →
    s.nextAgent p.schedule = .host ∧
      (s.script.head? = some .reset ∨
        (s.busy = false ∧ ∃ (a : Addr) (v : Word), s.script.head? = some (.access (.write a 32 v)) ∧
          locate p.ibufBytes a = some (.ibufWord (i / 4)) ∧ ibufByte t i = v.extractLsb' (8 * (i % 4)) 8))

/-- The sticky flags fall only at a write to STATUS with their bit 1, or at reset (10_state R27, R28). -/
def Obligations.StickyFlagsFall : Prop :=
  ∀ (p : Params) (s t : State), s.stepWith p = .next t →
    (s.addrErr = true → t.addrErr = false → s.nextAgent p.schedule = .host ∧ (s.script.head? = some .reset ∨
      ∃ v : Word, s.script.head? = some (.access (.write 0x000004#24 32 v)) ∧ v.getLsbD 16 = true)) ∧
      (s.wrIgnored = true → t.wrIgnored = false → s.nextAgent p.schedule = .host ∧ (s.script.head? = some .reset ∨
        ∃ v : Word, s.script.head? = some (.access (.write 0x000004#24 32 v)) ∧ v.getLsbD 17 = true))

/-- WAIT_IDLE (30_encoding R103): each turn reads STATUS; the loop goes on exactly while bit 0 of the value read is 1.
The fields `granted` and `clock` move as at every step of the host (log 5, log 9). -/
def Obligations.WaitIdlePolls : Prop :=
  ∀ (p : Params) (s : State) (rest : List HostOp), s.nextAgent p.schedule = .host → s.script = .waitIdle :: rest →
    s.stepWith p = .next { s with
      script := if s.statusWord.getLsbD 0 then .waitIdle :: rest else rest
      granted := false
      clock := if s.busy && !s.granted then s.clock + 1 else s.clock
      replies := s.statusWord :: s.replies }

/-- LOAD (30_encoding R103) run on an idle unit, whatever the schedule, puts the bytes in IBUF and their number in RAW_LEN,
and leaves the host at the rest of its script. The step count, one for each word and one more, rests on the model's choice
that an IDLE unit takes no step, so that the host moves (log 5). -/
def Obligations.LoadFillsBuffer : Prop :=
  ∀ (p : Params) (s : State) (bytes : List Byte) (rest : List HostOp), s.busy = false → p.legal = true →
    bytes.length ≤ p.ibufBytes → s.script = (ScriptLine.load bytes).expand ++ rest →
    ∃ t, (coreOf p).run ((bytes.length + 3) / 4 + 1) s = .next t ∧ t.script = rest ∧ t.busy = false ∧
      t.rawLen.toNat = bytes.length ∧ ∀ i < bytes.length, ibufByte t i = bytes.getD i 0#8

/-- A write to IBUF racing a PARSE (93_implementation_defined U8; 40_command_interface R125): under two schedules that
choose the host first and then the unit, and the unit first, the outcome, the result registers and OBUF come out the same;
the write takes effect if the unit moved first, and is discarded with WR_IGNORED = 1 otherwise. -/
def Obligations.RacingWrite : Prop :=
  ∀ (n : Nat) (hostFirst unitFirst : Nat → Agent) (s : State) (job : Job) (a : Addr) (v : Word) (k : Nat),
    s.fsm = .parsing job → s.granted = false → s.script = [.access (.write a 32 v)] →
    locate n a = some (.ibufWord k) →
    hostFirst s.clock = .host → hostFirst (s.clock + 1) = .unit → unitFirst s.clock = .unit →
    ∃ t u, (coreOf ⟨n, hostFirst⟩).run 2 s = .next t ∧ (coreOf ⟨n, unitFirst⟩).run 2 s = .next u ∧
      t.busy = false ∧ u.busy = false ∧ t.err = u.err ∧ t.hdrCause = u.hdrCause ∧ t.hdrForm = u.hdrForm ∧
      t.hdrDigits = u.hdrDigits ∧ t.hdrLength = u.hdrLength ∧ t.payloadOff = u.payloadOff ∧
      t.payloadBytes = u.payloadBytes ∧ t.sampleCount = u.sampleCount ∧ t.obuf = u.obuf ∧
      t.ibuf = s.ibuf ∧ t.wrIgnored = true ∧ u.ibuf = (s.putIbufWord k v).ibuf ∧ u.wrIgnored = s.wrIgnored
end

