-- ==== Sys2Proof/Laws/State.lean ====
section
/-! SUPPORT. For each named update of the state, the value of every field after it: true by rfl, so that no later proof
unfolds a record update. -/

namespace Sys2Proof.Machine

variable (s : State)

/-! ### setAddrErr -/

@[simp] theorem State.setAddrErr_fsm : (s.setAddrErr).fsm = s.fsm := rfl
@[simp] theorem State.setAddrErr_err : (s.setAddrErr).err = s.err := rfl
@[simp] theorem State.setAddrErr_hdrCause : (s.setAddrErr).hdrCause = s.hdrCause := rfl
@[simp] theorem State.setAddrErr_addrErr : (s.setAddrErr).addrErr = true := rfl
@[simp] theorem State.setAddrErr_wrIgnored : (s.setAddrErr).wrIgnored = s.wrIgnored := rfl
@[simp] theorem State.setAddrErr_f32Mode : (s.setAddrErr).f32Mode = s.f32Mode := rfl
@[simp] theorem State.setAddrErr_lenPolicy : (s.setAddrErr).lenPolicy = s.lenPolicy := rfl
@[simp] theorem State.setAddrErr_rawLen : (s.setAddrErr).rawLen = s.rawLen := rfl
@[simp] theorem State.setAddrErr_decIn : (s.setAddrErr).decIn = s.decIn := rfl
@[simp] theorem State.setAddrErr_decInfo : (s.setAddrErr).decInfo = s.decInfo := rfl
@[simp] theorem State.setAddrErr_decMant : (s.setAddrErr).decMant = s.decMant := rfl
@[simp] theorem State.setAddrErr_decOutLo : (s.setAddrErr).decOutLo = s.decOutLo := rfl
@[simp] theorem State.setAddrErr_decOutHi : (s.setAddrErr).decOutHi = s.decOutHi := rfl
@[simp] theorem State.setAddrErr_hdrForm : (s.setAddrErr).hdrForm = s.hdrForm := rfl
@[simp] theorem State.setAddrErr_hdrDigits : (s.setAddrErr).hdrDigits = s.hdrDigits := rfl
@[simp] theorem State.setAddrErr_hdrLength : (s.setAddrErr).hdrLength = s.hdrLength := rfl
@[simp] theorem State.setAddrErr_payloadOff : (s.setAddrErr).payloadOff = s.payloadOff := rfl
@[simp] theorem State.setAddrErr_payloadBytes : (s.setAddrErr).payloadBytes = s.payloadBytes := rfl
@[simp] theorem State.setAddrErr_sampleCount : (s.setAddrErr).sampleCount = s.sampleCount := rfl
@[simp] theorem State.setAddrErr_ibuf : (s.setAddrErr).ibuf = s.ibuf := rfl
@[simp] theorem State.setAddrErr_obuf : (s.setAddrErr).obuf = s.obuf := rfl
@[simp] theorem State.setAddrErr_script : (s.setAddrErr).script = s.script := rfl
@[simp] theorem State.setAddrErr_clock : (s.setAddrErr).clock = s.clock := rfl
@[simp] theorem State.setAddrErr_granted : (s.setAddrErr).granted = s.granted := rfl
@[simp] theorem State.setAddrErr_replies : (s.setAddrErr).replies = s.replies := rfl
@[simp] theorem State.setAddrErr_draws : (s.setAddrErr).draws = s.draws := rfl
@[simp] theorem State.setAddrErr_resets : (s.setAddrErr).resets = s.resets := rfl
@[simp] theorem State.setAddrErr_busy : (s.setAddrErr).busy = s.busy := rfl

/-! ### ignoreWrite -/

@[simp] theorem State.ignoreWrite_fsm : (s.ignoreWrite).fsm = s.fsm := rfl
@[simp] theorem State.ignoreWrite_err : (s.ignoreWrite).err = s.err := rfl
@[simp] theorem State.ignoreWrite_hdrCause : (s.ignoreWrite).hdrCause = s.hdrCause := rfl
@[simp] theorem State.ignoreWrite_addrErr : (s.ignoreWrite).addrErr = s.addrErr := rfl
@[simp] theorem State.ignoreWrite_wrIgnored : (s.ignoreWrite).wrIgnored = true := rfl
@[simp] theorem State.ignoreWrite_f32Mode : (s.ignoreWrite).f32Mode = s.f32Mode := rfl
@[simp] theorem State.ignoreWrite_lenPolicy : (s.ignoreWrite).lenPolicy = s.lenPolicy := rfl
@[simp] theorem State.ignoreWrite_rawLen : (s.ignoreWrite).rawLen = s.rawLen := rfl
@[simp] theorem State.ignoreWrite_decIn : (s.ignoreWrite).decIn = s.decIn := rfl
@[simp] theorem State.ignoreWrite_decInfo : (s.ignoreWrite).decInfo = s.decInfo := rfl
@[simp] theorem State.ignoreWrite_decMant : (s.ignoreWrite).decMant = s.decMant := rfl
@[simp] theorem State.ignoreWrite_decOutLo : (s.ignoreWrite).decOutLo = s.decOutLo := rfl
@[simp] theorem State.ignoreWrite_decOutHi : (s.ignoreWrite).decOutHi = s.decOutHi := rfl
@[simp] theorem State.ignoreWrite_hdrForm : (s.ignoreWrite).hdrForm = s.hdrForm := rfl
@[simp] theorem State.ignoreWrite_hdrDigits : (s.ignoreWrite).hdrDigits = s.hdrDigits := rfl
@[simp] theorem State.ignoreWrite_hdrLength : (s.ignoreWrite).hdrLength = s.hdrLength := rfl
@[simp] theorem State.ignoreWrite_payloadOff : (s.ignoreWrite).payloadOff = s.payloadOff := rfl
@[simp] theorem State.ignoreWrite_payloadBytes : (s.ignoreWrite).payloadBytes = s.payloadBytes := rfl
@[simp] theorem State.ignoreWrite_sampleCount : (s.ignoreWrite).sampleCount = s.sampleCount := rfl
@[simp] theorem State.ignoreWrite_ibuf : (s.ignoreWrite).ibuf = s.ibuf := rfl
@[simp] theorem State.ignoreWrite_obuf : (s.ignoreWrite).obuf = s.obuf := rfl
@[simp] theorem State.ignoreWrite_script : (s.ignoreWrite).script = s.script := rfl
@[simp] theorem State.ignoreWrite_clock : (s.ignoreWrite).clock = s.clock := rfl
@[simp] theorem State.ignoreWrite_granted : (s.ignoreWrite).granted = s.granted := rfl
@[simp] theorem State.ignoreWrite_replies : (s.ignoreWrite).replies = s.replies := rfl
@[simp] theorem State.ignoreWrite_draws : (s.ignoreWrite).draws = s.draws := rfl
@[simp] theorem State.ignoreWrite_resets : (s.ignoreWrite).resets = s.resets := rfl
@[simp] theorem State.ignoreWrite_busy : (s.ignoreWrite).busy = s.busy := rfl

/-! ### reply -/

@[simp] theorem State.reply_fsm (v : Word) : (s.reply v).fsm = s.fsm := rfl
@[simp] theorem State.reply_err (v : Word) : (s.reply v).err = s.err := rfl
@[simp] theorem State.reply_hdrCause (v : Word) : (s.reply v).hdrCause = s.hdrCause := rfl
@[simp] theorem State.reply_addrErr (v : Word) : (s.reply v).addrErr = s.addrErr := rfl
@[simp] theorem State.reply_wrIgnored (v : Word) : (s.reply v).wrIgnored = s.wrIgnored := rfl
@[simp] theorem State.reply_f32Mode (v : Word) : (s.reply v).f32Mode = s.f32Mode := rfl
@[simp] theorem State.reply_lenPolicy (v : Word) : (s.reply v).lenPolicy = s.lenPolicy := rfl
@[simp] theorem State.reply_rawLen (v : Word) : (s.reply v).rawLen = s.rawLen := rfl
@[simp] theorem State.reply_decIn (v : Word) : (s.reply v).decIn = s.decIn := rfl
@[simp] theorem State.reply_decInfo (v : Word) : (s.reply v).decInfo = s.decInfo := rfl
@[simp] theorem State.reply_decMant (v : Word) : (s.reply v).decMant = s.decMant := rfl
@[simp] theorem State.reply_decOutLo (v : Word) : (s.reply v).decOutLo = s.decOutLo := rfl
@[simp] theorem State.reply_decOutHi (v : Word) : (s.reply v).decOutHi = s.decOutHi := rfl
@[simp] theorem State.reply_hdrForm (v : Word) : (s.reply v).hdrForm = s.hdrForm := rfl
@[simp] theorem State.reply_hdrDigits (v : Word) : (s.reply v).hdrDigits = s.hdrDigits := rfl
@[simp] theorem State.reply_hdrLength (v : Word) : (s.reply v).hdrLength = s.hdrLength := rfl
@[simp] theorem State.reply_payloadOff (v : Word) : (s.reply v).payloadOff = s.payloadOff := rfl
@[simp] theorem State.reply_payloadBytes (v : Word) : (s.reply v).payloadBytes = s.payloadBytes := rfl
@[simp] theorem State.reply_sampleCount (v : Word) : (s.reply v).sampleCount = s.sampleCount := rfl
@[simp] theorem State.reply_ibuf (v : Word) : (s.reply v).ibuf = s.ibuf := rfl
@[simp] theorem State.reply_obuf (v : Word) : (s.reply v).obuf = s.obuf := rfl
@[simp] theorem State.reply_script (v : Word) : (s.reply v).script = s.script := rfl
@[simp] theorem State.reply_clock (v : Word) : (s.reply v).clock = s.clock := rfl
@[simp] theorem State.reply_granted (v : Word) : (s.reply v).granted = s.granted := rfl
@[simp] theorem State.reply_replies (v : Word) : (s.reply v).replies = v :: s.replies := rfl
@[simp] theorem State.reply_draws (v : Word) : (s.reply v).draws = s.draws := rfl
@[simp] theorem State.reply_resets (v : Word) : (s.reply v).resets = s.resets := rfl
@[simp] theorem State.reply_busy (v : Word) : (s.reply v).busy = s.busy := rfl

/-! ### replyDraw -/

@[simp] theorem State.replyDraw_fsm : (s.replyDraw).fsm = s.fsm := rfl
@[simp] theorem State.replyDraw_err : (s.replyDraw).err = s.err := rfl
@[simp] theorem State.replyDraw_hdrCause : (s.replyDraw).hdrCause = s.hdrCause := rfl
@[simp] theorem State.replyDraw_addrErr : (s.replyDraw).addrErr = s.addrErr := rfl
@[simp] theorem State.replyDraw_wrIgnored : (s.replyDraw).wrIgnored = s.wrIgnored := rfl
@[simp] theorem State.replyDraw_f32Mode : (s.replyDraw).f32Mode = s.f32Mode := rfl
@[simp] theorem State.replyDraw_lenPolicy : (s.replyDraw).lenPolicy = s.lenPolicy := rfl
@[simp] theorem State.replyDraw_rawLen : (s.replyDraw).rawLen = s.rawLen := rfl
@[simp] theorem State.replyDraw_decIn : (s.replyDraw).decIn = s.decIn := rfl
@[simp] theorem State.replyDraw_decInfo : (s.replyDraw).decInfo = s.decInfo := rfl
@[simp] theorem State.replyDraw_decMant : (s.replyDraw).decMant = s.decMant := rfl
@[simp] theorem State.replyDraw_decOutLo : (s.replyDraw).decOutLo = s.decOutLo := rfl
@[simp] theorem State.replyDraw_decOutHi : (s.replyDraw).decOutHi = s.decOutHi := rfl
@[simp] theorem State.replyDraw_hdrForm : (s.replyDraw).hdrForm = s.hdrForm := rfl
@[simp] theorem State.replyDraw_hdrDigits : (s.replyDraw).hdrDigits = s.hdrDigits := rfl
@[simp] theorem State.replyDraw_hdrLength : (s.replyDraw).hdrLength = s.hdrLength := rfl
@[simp] theorem State.replyDraw_payloadOff : (s.replyDraw).payloadOff = s.payloadOff := rfl
@[simp] theorem State.replyDraw_payloadBytes : (s.replyDraw).payloadBytes = s.payloadBytes := rfl
@[simp] theorem State.replyDraw_sampleCount : (s.replyDraw).sampleCount = s.sampleCount := rfl
@[simp] theorem State.replyDraw_ibuf : (s.replyDraw).ibuf = s.ibuf := rfl
@[simp] theorem State.replyDraw_obuf : (s.replyDraw).obuf = s.obuf := rfl
@[simp] theorem State.replyDraw_script : (s.replyDraw).script = s.script := rfl
@[simp] theorem State.replyDraw_clock : (s.replyDraw).clock = s.clock := rfl
@[simp] theorem State.replyDraw_granted : (s.replyDraw).granted = s.granted := rfl
@[simp] theorem State.replyDraw_replies : (s.replyDraw).replies = Config.busyRead s.draws :: s.replies := rfl
@[simp] theorem State.replyDraw_draws : (s.replyDraw).draws = s.draws + 1 := rfl
@[simp] theorem State.replyDraw_resets : (s.replyDraw).resets = s.resets := rfl
@[simp] theorem State.replyDraw_busy : (s.replyDraw).busy = s.busy := rfl

/-! ### raise -/

@[simp] theorem State.raise_fsm (e : ErrCode) (c : HdrCause) : (s.raise e c).fsm = s.fsm := rfl
@[simp] theorem State.raise_err (e : ErrCode) (c : HdrCause) : (s.raise e c).err = e := rfl
@[simp] theorem State.raise_hdrCause (e : ErrCode) (c : HdrCause) : (s.raise e c).hdrCause = if e = .malformedHeader then c else .none := rfl
@[simp] theorem State.raise_addrErr (e : ErrCode) (c : HdrCause) : (s.raise e c).addrErr = s.addrErr := rfl
@[simp] theorem State.raise_wrIgnored (e : ErrCode) (c : HdrCause) : (s.raise e c).wrIgnored = s.wrIgnored := rfl
@[simp] theorem State.raise_f32Mode (e : ErrCode) (c : HdrCause) : (s.raise e c).f32Mode = s.f32Mode := rfl
@[simp] theorem State.raise_lenPolicy (e : ErrCode) (c : HdrCause) : (s.raise e c).lenPolicy = s.lenPolicy := rfl
@[simp] theorem State.raise_rawLen (e : ErrCode) (c : HdrCause) : (s.raise e c).rawLen = s.rawLen := rfl
@[simp] theorem State.raise_decIn (e : ErrCode) (c : HdrCause) : (s.raise e c).decIn = s.decIn := rfl
@[simp] theorem State.raise_decInfo (e : ErrCode) (c : HdrCause) : (s.raise e c).decInfo = s.decInfo := rfl
@[simp] theorem State.raise_decMant (e : ErrCode) (c : HdrCause) : (s.raise e c).decMant = s.decMant := rfl
@[simp] theorem State.raise_decOutLo (e : ErrCode) (c : HdrCause) : (s.raise e c).decOutLo = s.decOutLo := rfl
@[simp] theorem State.raise_decOutHi (e : ErrCode) (c : HdrCause) : (s.raise e c).decOutHi = s.decOutHi := rfl
@[simp] theorem State.raise_hdrForm (e : ErrCode) (c : HdrCause) : (s.raise e c).hdrForm = s.hdrForm := rfl
@[simp] theorem State.raise_hdrDigits (e : ErrCode) (c : HdrCause) : (s.raise e c).hdrDigits = s.hdrDigits := rfl
@[simp] theorem State.raise_hdrLength (e : ErrCode) (c : HdrCause) : (s.raise e c).hdrLength = s.hdrLength := rfl
@[simp] theorem State.raise_payloadOff (e : ErrCode) (c : HdrCause) : (s.raise e c).payloadOff = s.payloadOff := rfl
@[simp] theorem State.raise_payloadBytes (e : ErrCode) (c : HdrCause) : (s.raise e c).payloadBytes = s.payloadBytes := rfl
@[simp] theorem State.raise_sampleCount (e : ErrCode) (c : HdrCause) : (s.raise e c).sampleCount = s.sampleCount := rfl
@[simp] theorem State.raise_ibuf (e : ErrCode) (c : HdrCause) : (s.raise e c).ibuf = s.ibuf := rfl
@[simp] theorem State.raise_obuf (e : ErrCode) (c : HdrCause) : (s.raise e c).obuf = s.obuf := rfl
@[simp] theorem State.raise_script (e : ErrCode) (c : HdrCause) : (s.raise e c).script = s.script := rfl
@[simp] theorem State.raise_clock (e : ErrCode) (c : HdrCause) : (s.raise e c).clock = s.clock := rfl
@[simp] theorem State.raise_granted (e : ErrCode) (c : HdrCause) : (s.raise e c).granted = s.granted := rfl
@[simp] theorem State.raise_replies (e : ErrCode) (c : HdrCause) : (s.raise e c).replies = s.replies := rfl
@[simp] theorem State.raise_draws (e : ErrCode) (c : HdrCause) : (s.raise e c).draws = s.draws := rfl
@[simp] theorem State.raise_resets (e : ErrCode) (c : HdrCause) : (s.raise e c).resets = s.resets := rfl
@[simp] theorem State.raise_busy (e : ErrCode) (c : HdrCause) : (s.raise e c).busy = s.busy := rfl

/-! ### putIbufWord -/

@[simp] theorem State.putIbufWord_fsm (k : Nat) (v : Word) : (s.putIbufWord k v).fsm = s.fsm := rfl
@[simp] theorem State.putIbufWord_err (k : Nat) (v : Word) : (s.putIbufWord k v).err = s.err := rfl
@[simp] theorem State.putIbufWord_hdrCause (k : Nat) (v : Word) : (s.putIbufWord k v).hdrCause = s.hdrCause := rfl
@[simp] theorem State.putIbufWord_addrErr (k : Nat) (v : Word) : (s.putIbufWord k v).addrErr = s.addrErr := rfl
@[simp] theorem State.putIbufWord_wrIgnored (k : Nat) (v : Word) : (s.putIbufWord k v).wrIgnored = s.wrIgnored := rfl
@[simp] theorem State.putIbufWord_f32Mode (k : Nat) (v : Word) : (s.putIbufWord k v).f32Mode = s.f32Mode := rfl
@[simp] theorem State.putIbufWord_lenPolicy (k : Nat) (v : Word) : (s.putIbufWord k v).lenPolicy = s.lenPolicy := rfl
@[simp] theorem State.putIbufWord_rawLen (k : Nat) (v : Word) : (s.putIbufWord k v).rawLen = s.rawLen := rfl
@[simp] theorem State.putIbufWord_decIn (k : Nat) (v : Word) : (s.putIbufWord k v).decIn = s.decIn := rfl
@[simp] theorem State.putIbufWord_decInfo (k : Nat) (v : Word) : (s.putIbufWord k v).decInfo = s.decInfo := rfl
@[simp] theorem State.putIbufWord_decMant (k : Nat) (v : Word) : (s.putIbufWord k v).decMant = s.decMant := rfl
@[simp] theorem State.putIbufWord_decOutLo (k : Nat) (v : Word) : (s.putIbufWord k v).decOutLo = s.decOutLo := rfl
@[simp] theorem State.putIbufWord_decOutHi (k : Nat) (v : Word) : (s.putIbufWord k v).decOutHi = s.decOutHi := rfl
@[simp] theorem State.putIbufWord_hdrForm (k : Nat) (v : Word) : (s.putIbufWord k v).hdrForm = s.hdrForm := rfl
@[simp] theorem State.putIbufWord_hdrDigits (k : Nat) (v : Word) : (s.putIbufWord k v).hdrDigits = s.hdrDigits := rfl
@[simp] theorem State.putIbufWord_hdrLength (k : Nat) (v : Word) : (s.putIbufWord k v).hdrLength = s.hdrLength := rfl
@[simp] theorem State.putIbufWord_payloadOff (k : Nat) (v : Word) : (s.putIbufWord k v).payloadOff = s.payloadOff := rfl
@[simp] theorem State.putIbufWord_payloadBytes (k : Nat) (v : Word) : (s.putIbufWord k v).payloadBytes = s.payloadBytes := rfl
@[simp] theorem State.putIbufWord_sampleCount (k : Nat) (v : Word) : (s.putIbufWord k v).sampleCount = s.sampleCount := rfl
@[simp] theorem State.putIbufWord_ibuf (k : Nat) (v : Word) : (s.putIbufWord k v).ibuf = Memory.putAll s.ibuf (4 * k) [byteOfWord v 0, byteOfWord v 1, byteOfWord v 2, byteOfWord v 3] := rfl
@[simp] theorem State.putIbufWord_obuf (k : Nat) (v : Word) : (s.putIbufWord k v).obuf = s.obuf := rfl
@[simp] theorem State.putIbufWord_script (k : Nat) (v : Word) : (s.putIbufWord k v).script = s.script := rfl
@[simp] theorem State.putIbufWord_clock (k : Nat) (v : Word) : (s.putIbufWord k v).clock = s.clock := rfl
@[simp] theorem State.putIbufWord_granted (k : Nat) (v : Word) : (s.putIbufWord k v).granted = s.granted := rfl
@[simp] theorem State.putIbufWord_replies (k : Nat) (v : Word) : (s.putIbufWord k v).replies = s.replies := rfl
@[simp] theorem State.putIbufWord_draws (k : Nat) (v : Word) : (s.putIbufWord k v).draws = s.draws := rfl
@[simp] theorem State.putIbufWord_resets (k : Nat) (v : Word) : (s.putIbufWord k v).resets = s.resets := rfl
@[simp] theorem State.putIbufWord_busy (k : Nat) (v : Word) : (s.putIbufWord k v).busy = s.busy := rfl

/-! ### putSamples -/

@[simp] theorem State.putSamples_fsm (vs : List DWord) : (s.putSamples vs).fsm = s.fsm := rfl
@[simp] theorem State.putSamples_err (vs : List DWord) : (s.putSamples vs).err = s.err := rfl
@[simp] theorem State.putSamples_hdrCause (vs : List DWord) : (s.putSamples vs).hdrCause = s.hdrCause := rfl
@[simp] theorem State.putSamples_addrErr (vs : List DWord) : (s.putSamples vs).addrErr = s.addrErr := rfl
@[simp] theorem State.putSamples_wrIgnored (vs : List DWord) : (s.putSamples vs).wrIgnored = s.wrIgnored := rfl
@[simp] theorem State.putSamples_f32Mode (vs : List DWord) : (s.putSamples vs).f32Mode = s.f32Mode := rfl
@[simp] theorem State.putSamples_lenPolicy (vs : List DWord) : (s.putSamples vs).lenPolicy = s.lenPolicy := rfl
@[simp] theorem State.putSamples_rawLen (vs : List DWord) : (s.putSamples vs).rawLen = s.rawLen := rfl
@[simp] theorem State.putSamples_decIn (vs : List DWord) : (s.putSamples vs).decIn = s.decIn := rfl
@[simp] theorem State.putSamples_decInfo (vs : List DWord) : (s.putSamples vs).decInfo = s.decInfo := rfl
@[simp] theorem State.putSamples_decMant (vs : List DWord) : (s.putSamples vs).decMant = s.decMant := rfl
@[simp] theorem State.putSamples_decOutLo (vs : List DWord) : (s.putSamples vs).decOutLo = s.decOutLo := rfl
@[simp] theorem State.putSamples_decOutHi (vs : List DWord) : (s.putSamples vs).decOutHi = s.decOutHi := rfl
@[simp] theorem State.putSamples_hdrForm (vs : List DWord) : (s.putSamples vs).hdrForm = s.hdrForm := rfl
@[simp] theorem State.putSamples_hdrDigits (vs : List DWord) : (s.putSamples vs).hdrDigits = s.hdrDigits := rfl
@[simp] theorem State.putSamples_hdrLength (vs : List DWord) : (s.putSamples vs).hdrLength = s.hdrLength := rfl
@[simp] theorem State.putSamples_payloadOff (vs : List DWord) : (s.putSamples vs).payloadOff = s.payloadOff := rfl
@[simp] theorem State.putSamples_payloadBytes (vs : List DWord) : (s.putSamples vs).payloadBytes = s.payloadBytes := rfl
@[simp] theorem State.putSamples_sampleCount (vs : List DWord) : (s.putSamples vs).sampleCount = s.sampleCount := rfl
@[simp] theorem State.putSamples_ibuf (vs : List DWord) : (s.putSamples vs).ibuf = s.ibuf := rfl
@[simp] theorem State.putSamples_obuf (vs : List DWord) : (s.putSamples vs).obuf = Memory.putAll s.obuf 0 vs := rfl
@[simp] theorem State.putSamples_script (vs : List DWord) : (s.putSamples vs).script = s.script := rfl
@[simp] theorem State.putSamples_clock (vs : List DWord) : (s.putSamples vs).clock = s.clock := rfl
@[simp] theorem State.putSamples_granted (vs : List DWord) : (s.putSamples vs).granted = s.granted := rfl
@[simp] theorem State.putSamples_replies (vs : List DWord) : (s.putSamples vs).replies = s.replies := rfl
@[simp] theorem State.putSamples_draws (vs : List DWord) : (s.putSamples vs).draws = s.draws := rfl
@[simp] theorem State.putSamples_resets (vs : List DWord) : (s.putSamples vs).resets = s.resets := rfl
@[simp] theorem State.putSamples_busy (vs : List DWord) : (s.putSamples vs).busy = s.busy := rfl

/-! ### writeStatus -/

@[simp] theorem State.writeStatus_fsm (v : Word) : (s.writeStatus v).fsm = s.fsm := rfl
@[simp] theorem State.writeStatus_err (v : Word) : (s.writeStatus v).err = s.err := rfl
@[simp] theorem State.writeStatus_hdrCause (v : Word) : (s.writeStatus v).hdrCause = s.hdrCause := rfl
@[simp] theorem State.writeStatus_addrErr (v : Word) : (s.writeStatus v).addrErr = (s.addrErr && !v.getLsbD 16) := rfl
@[simp] theorem State.writeStatus_wrIgnored (v : Word) : (s.writeStatus v).wrIgnored = (s.wrIgnored && !v.getLsbD 17) := rfl
@[simp] theorem State.writeStatus_f32Mode (v : Word) : (s.writeStatus v).f32Mode = s.f32Mode := rfl
@[simp] theorem State.writeStatus_lenPolicy (v : Word) : (s.writeStatus v).lenPolicy = s.lenPolicy := rfl
@[simp] theorem State.writeStatus_rawLen (v : Word) : (s.writeStatus v).rawLen = s.rawLen := rfl
@[simp] theorem State.writeStatus_decIn (v : Word) : (s.writeStatus v).decIn = s.decIn := rfl
@[simp] theorem State.writeStatus_decInfo (v : Word) : (s.writeStatus v).decInfo = s.decInfo := rfl
@[simp] theorem State.writeStatus_decMant (v : Word) : (s.writeStatus v).decMant = s.decMant := rfl
@[simp] theorem State.writeStatus_decOutLo (v : Word) : (s.writeStatus v).decOutLo = s.decOutLo := rfl
@[simp] theorem State.writeStatus_decOutHi (v : Word) : (s.writeStatus v).decOutHi = s.decOutHi := rfl
@[simp] theorem State.writeStatus_hdrForm (v : Word) : (s.writeStatus v).hdrForm = s.hdrForm := rfl
@[simp] theorem State.writeStatus_hdrDigits (v : Word) : (s.writeStatus v).hdrDigits = s.hdrDigits := rfl
@[simp] theorem State.writeStatus_hdrLength (v : Word) : (s.writeStatus v).hdrLength = s.hdrLength := rfl
@[simp] theorem State.writeStatus_payloadOff (v : Word) : (s.writeStatus v).payloadOff = s.payloadOff := rfl
@[simp] theorem State.writeStatus_payloadBytes (v : Word) : (s.writeStatus v).payloadBytes = s.payloadBytes := rfl
@[simp] theorem State.writeStatus_sampleCount (v : Word) : (s.writeStatus v).sampleCount = s.sampleCount := rfl
@[simp] theorem State.writeStatus_ibuf (v : Word) : (s.writeStatus v).ibuf = s.ibuf := rfl
@[simp] theorem State.writeStatus_obuf (v : Word) : (s.writeStatus v).obuf = s.obuf := rfl
@[simp] theorem State.writeStatus_script (v : Word) : (s.writeStatus v).script = s.script := rfl
@[simp] theorem State.writeStatus_clock (v : Word) : (s.writeStatus v).clock = s.clock := rfl
@[simp] theorem State.writeStatus_granted (v : Word) : (s.writeStatus v).granted = s.granted := rfl
@[simp] theorem State.writeStatus_replies (v : Word) : (s.writeStatus v).replies = s.replies := rfl
@[simp] theorem State.writeStatus_draws (v : Word) : (s.writeStatus v).draws = s.draws := rfl
@[simp] theorem State.writeStatus_resets (v : Word) : (s.writeStatus v).resets = s.resets := rfl
@[simp] theorem State.writeStatus_busy (v : Word) : (s.writeStatus v).busy = s.busy := rfl

/-! ### writeCfg -/

@[simp] theorem State.writeCfg_fsm (v : Word) : (s.writeCfg v).fsm = s.fsm := rfl
@[simp] theorem State.writeCfg_err (v : Word) : (s.writeCfg v).err = s.err := rfl
@[simp] theorem State.writeCfg_hdrCause (v : Word) : (s.writeCfg v).hdrCause = s.hdrCause := rfl
@[simp] theorem State.writeCfg_addrErr (v : Word) : (s.writeCfg v).addrErr = s.addrErr := rfl
@[simp] theorem State.writeCfg_wrIgnored (v : Word) : (s.writeCfg v).wrIgnored = s.wrIgnored := rfl
@[simp] theorem State.writeCfg_f32Mode (v : Word) : (s.writeCfg v).f32Mode = F32Mode.ofBit (v.getLsbD 0) := rfl
@[simp] theorem State.writeCfg_lenPolicy (v : Word) : (s.writeCfg v).lenPolicy = LenPolicy.ofBit (v.getLsbD 1) := rfl
@[simp] theorem State.writeCfg_rawLen (v : Word) : (s.writeCfg v).rawLen = s.rawLen := rfl
@[simp] theorem State.writeCfg_decIn (v : Word) : (s.writeCfg v).decIn = s.decIn := rfl
@[simp] theorem State.writeCfg_decInfo (v : Word) : (s.writeCfg v).decInfo = s.decInfo := rfl
@[simp] theorem State.writeCfg_decMant (v : Word) : (s.writeCfg v).decMant = s.decMant := rfl
@[simp] theorem State.writeCfg_decOutLo (v : Word) : (s.writeCfg v).decOutLo = s.decOutLo := rfl
@[simp] theorem State.writeCfg_decOutHi (v : Word) : (s.writeCfg v).decOutHi = s.decOutHi := rfl
@[simp] theorem State.writeCfg_hdrForm (v : Word) : (s.writeCfg v).hdrForm = s.hdrForm := rfl
@[simp] theorem State.writeCfg_hdrDigits (v : Word) : (s.writeCfg v).hdrDigits = s.hdrDigits := rfl
@[simp] theorem State.writeCfg_hdrLength (v : Word) : (s.writeCfg v).hdrLength = s.hdrLength := rfl
@[simp] theorem State.writeCfg_payloadOff (v : Word) : (s.writeCfg v).payloadOff = s.payloadOff := rfl
@[simp] theorem State.writeCfg_payloadBytes (v : Word) : (s.writeCfg v).payloadBytes = s.payloadBytes := rfl
@[simp] theorem State.writeCfg_sampleCount (v : Word) : (s.writeCfg v).sampleCount = s.sampleCount := rfl
@[simp] theorem State.writeCfg_ibuf (v : Word) : (s.writeCfg v).ibuf = s.ibuf := rfl
@[simp] theorem State.writeCfg_obuf (v : Word) : (s.writeCfg v).obuf = s.obuf := rfl
@[simp] theorem State.writeCfg_script (v : Word) : (s.writeCfg v).script = s.script := rfl
@[simp] theorem State.writeCfg_clock (v : Word) : (s.writeCfg v).clock = s.clock := rfl
@[simp] theorem State.writeCfg_granted (v : Word) : (s.writeCfg v).granted = s.granted := rfl
@[simp] theorem State.writeCfg_replies (v : Word) : (s.writeCfg v).replies = s.replies := rfl
@[simp] theorem State.writeCfg_draws (v : Word) : (s.writeCfg v).draws = s.draws := rfl
@[simp] theorem State.writeCfg_resets (v : Word) : (s.writeCfg v).resets = s.resets := rfl
@[simp] theorem State.writeCfg_busy (v : Word) : (s.writeCfg v).busy = s.busy := rfl

/-! ### doDecode -/

@[simp] theorem State.doDecode_fsm : (s.doDecode).fsm = s.fsm := rfl
@[simp] theorem State.doDecode_err : (s.doDecode).err = .none := rfl
@[simp] theorem State.doDecode_hdrCause : (s.doDecode).hdrCause = .none := rfl
@[simp] theorem State.doDecode_addrErr : (s.doDecode).addrErr = s.addrErr := rfl
@[simp] theorem State.doDecode_wrIgnored : (s.doDecode).wrIgnored = s.wrIgnored := rfl
@[simp] theorem State.doDecode_f32Mode : (s.doDecode).f32Mode = s.f32Mode := rfl
@[simp] theorem State.doDecode_lenPolicy : (s.doDecode).lenPolicy = s.lenPolicy := rfl
@[simp] theorem State.doDecode_rawLen : (s.doDecode).rawLen = s.rawLen := rfl
@[simp] theorem State.doDecode_decIn : (s.doDecode).decIn = s.decIn := rfl
@[simp] theorem State.doDecode_decInfo : (s.doDecode).decInfo = decInfoWord s.decIn := rfl
@[simp] theorem State.doDecode_decMant : (s.doDecode).decMant = (f32Mant s.decIn).setWidth 32 := rfl
@[simp] theorem State.doDecode_decOutLo : (s.doDecode).decOutLo = (decodeF32 s.f32Mode s.decIn).extractLsb' 0 32 := rfl
@[simp] theorem State.doDecode_decOutHi : (s.doDecode).decOutHi = (decodeF32 s.f32Mode s.decIn).extractLsb' 32 32 := rfl
@[simp] theorem State.doDecode_hdrForm : (s.doDecode).hdrForm = s.hdrForm := rfl
@[simp] theorem State.doDecode_hdrDigits : (s.doDecode).hdrDigits = s.hdrDigits := rfl
@[simp] theorem State.doDecode_hdrLength : (s.doDecode).hdrLength = s.hdrLength := rfl
@[simp] theorem State.doDecode_payloadOff : (s.doDecode).payloadOff = s.payloadOff := rfl
@[simp] theorem State.doDecode_payloadBytes : (s.doDecode).payloadBytes = s.payloadBytes := rfl
@[simp] theorem State.doDecode_sampleCount : (s.doDecode).sampleCount = s.sampleCount := rfl
@[simp] theorem State.doDecode_ibuf : (s.doDecode).ibuf = s.ibuf := rfl
@[simp] theorem State.doDecode_obuf : (s.doDecode).obuf = s.obuf := rfl
@[simp] theorem State.doDecode_script : (s.doDecode).script = s.script := rfl
@[simp] theorem State.doDecode_clock : (s.doDecode).clock = s.clock := rfl
@[simp] theorem State.doDecode_granted : (s.doDecode).granted = s.granted := rfl
@[simp] theorem State.doDecode_replies : (s.doDecode).replies = s.replies := rfl
@[simp] theorem State.doDecode_draws : (s.doDecode).draws = s.draws := rfl
@[simp] theorem State.doDecode_resets : (s.doDecode).resets = s.resets := rfl
@[simp] theorem State.doDecode_busy : (s.doDecode).busy = s.busy := rfl

/-! ### putResults -/

@[simp] theorem State.putResults_fsm (h : Header) (pb sc : Nat) : (s.putResults h pb sc).fsm = s.fsm := rfl
@[simp] theorem State.putResults_err (h : Header) (pb sc : Nat) : (s.putResults h pb sc).err = s.err := rfl
@[simp] theorem State.putResults_hdrCause (h : Header) (pb sc : Nat) : (s.putResults h pb sc).hdrCause = s.hdrCause := rfl
@[simp] theorem State.putResults_addrErr (h : Header) (pb sc : Nat) : (s.putResults h pb sc).addrErr = s.addrErr := rfl
@[simp] theorem State.putResults_wrIgnored (h : Header) (pb sc : Nat) : (s.putResults h pb sc).wrIgnored = s.wrIgnored := rfl
@[simp] theorem State.putResults_f32Mode (h : Header) (pb sc : Nat) : (s.putResults h pb sc).f32Mode = s.f32Mode := rfl
@[simp] theorem State.putResults_lenPolicy (h : Header) (pb sc : Nat) : (s.putResults h pb sc).lenPolicy = s.lenPolicy := rfl
@[simp] theorem State.putResults_rawLen (h : Header) (pb sc : Nat) : (s.putResults h pb sc).rawLen = s.rawLen := rfl
@[simp] theorem State.putResults_decIn (h : Header) (pb sc : Nat) : (s.putResults h pb sc).decIn = s.decIn := rfl
@[simp] theorem State.putResults_decInfo (h : Header) (pb sc : Nat) : (s.putResults h pb sc).decInfo = s.decInfo := rfl
@[simp] theorem State.putResults_decMant (h : Header) (pb sc : Nat) : (s.putResults h pb sc).decMant = s.decMant := rfl
@[simp] theorem State.putResults_decOutLo (h : Header) (pb sc : Nat) : (s.putResults h pb sc).decOutLo = s.decOutLo := rfl
@[simp] theorem State.putResults_decOutHi (h : Header) (pb sc : Nat) : (s.putResults h pb sc).decOutHi = s.decOutHi := rfl
@[simp] theorem State.putResults_hdrForm (h : Header) (pb sc : Nat) : (s.putResults h pb sc).hdrForm = h.form.word := rfl
@[simp] theorem State.putResults_hdrDigits (h : Header) (pb sc : Nat) : (s.putResults h pb sc).hdrDigits = countWord h.digits := rfl
@[simp] theorem State.putResults_hdrLength (h : Header) (pb sc : Nat) : (s.putResults h pb sc).hdrLength = countWord h.length := rfl
@[simp] theorem State.putResults_payloadOff (h : Header) (pb sc : Nat) : (s.putResults h pb sc).payloadOff = countWord h.offset := rfl
@[simp] theorem State.putResults_payloadBytes (h : Header) (pb sc : Nat) : (s.putResults h pb sc).payloadBytes = countWord pb := rfl
@[simp] theorem State.putResults_sampleCount (h : Header) (pb sc : Nat) : (s.putResults h pb sc).sampleCount = countWord sc := rfl
@[simp] theorem State.putResults_ibuf (h : Header) (pb sc : Nat) : (s.putResults h pb sc).ibuf = s.ibuf := rfl
@[simp] theorem State.putResults_obuf (h : Header) (pb sc : Nat) : (s.putResults h pb sc).obuf = s.obuf := rfl
@[simp] theorem State.putResults_script (h : Header) (pb sc : Nat) : (s.putResults h pb sc).script = s.script := rfl
@[simp] theorem State.putResults_clock (h : Header) (pb sc : Nat) : (s.putResults h pb sc).clock = s.clock := rfl
@[simp] theorem State.putResults_granted (h : Header) (pb sc : Nat) : (s.putResults h pb sc).granted = s.granted := rfl
@[simp] theorem State.putResults_replies (h : Header) (pb sc : Nat) : (s.putResults h pb sc).replies = s.replies := rfl
@[simp] theorem State.putResults_draws (h : Header) (pb sc : Nat) : (s.putResults h pb sc).draws = s.draws := rfl
@[simp] theorem State.putResults_resets (h : Header) (pb sc : Nat) : (s.putResults h pb sc).resets = s.resets := rfl
@[simp] theorem State.putResults_busy (h : Header) (pb sc : Nat) : (s.putResults h pb sc).busy = s.busy := rfl

/-! ### setDecIn -/

@[simp] theorem State.setDecIn_fsm (v : Word) : (s.setDecIn v).fsm = s.fsm := rfl
@[simp] theorem State.setDecIn_err (v : Word) : (s.setDecIn v).err = s.err := rfl
@[simp] theorem State.setDecIn_hdrCause (v : Word) : (s.setDecIn v).hdrCause = s.hdrCause := rfl
@[simp] theorem State.setDecIn_addrErr (v : Word) : (s.setDecIn v).addrErr = s.addrErr := rfl
@[simp] theorem State.setDecIn_wrIgnored (v : Word) : (s.setDecIn v).wrIgnored = s.wrIgnored := rfl
@[simp] theorem State.setDecIn_f32Mode (v : Word) : (s.setDecIn v).f32Mode = s.f32Mode := rfl
@[simp] theorem State.setDecIn_lenPolicy (v : Word) : (s.setDecIn v).lenPolicy = s.lenPolicy := rfl
@[simp] theorem State.setDecIn_rawLen (v : Word) : (s.setDecIn v).rawLen = s.rawLen := rfl
@[simp] theorem State.setDecIn_decIn (v : Word) : (s.setDecIn v).decIn = v := rfl
@[simp] theorem State.setDecIn_decInfo (v : Word) : (s.setDecIn v).decInfo = s.decInfo := rfl
@[simp] theorem State.setDecIn_decMant (v : Word) : (s.setDecIn v).decMant = s.decMant := rfl
@[simp] theorem State.setDecIn_decOutLo (v : Word) : (s.setDecIn v).decOutLo = s.decOutLo := rfl
@[simp] theorem State.setDecIn_decOutHi (v : Word) : (s.setDecIn v).decOutHi = s.decOutHi := rfl
@[simp] theorem State.setDecIn_hdrForm (v : Word) : (s.setDecIn v).hdrForm = s.hdrForm := rfl
@[simp] theorem State.setDecIn_hdrDigits (v : Word) : (s.setDecIn v).hdrDigits = s.hdrDigits := rfl
@[simp] theorem State.setDecIn_hdrLength (v : Word) : (s.setDecIn v).hdrLength = s.hdrLength := rfl
@[simp] theorem State.setDecIn_payloadOff (v : Word) : (s.setDecIn v).payloadOff = s.payloadOff := rfl
@[simp] theorem State.setDecIn_payloadBytes (v : Word) : (s.setDecIn v).payloadBytes = s.payloadBytes := rfl
@[simp] theorem State.setDecIn_sampleCount (v : Word) : (s.setDecIn v).sampleCount = s.sampleCount := rfl
@[simp] theorem State.setDecIn_ibuf (v : Word) : (s.setDecIn v).ibuf = s.ibuf := rfl
@[simp] theorem State.setDecIn_obuf (v : Word) : (s.setDecIn v).obuf = s.obuf := rfl
@[simp] theorem State.setDecIn_script (v : Word) : (s.setDecIn v).script = s.script := rfl
@[simp] theorem State.setDecIn_clock (v : Word) : (s.setDecIn v).clock = s.clock := rfl
@[simp] theorem State.setDecIn_granted (v : Word) : (s.setDecIn v).granted = s.granted := rfl
@[simp] theorem State.setDecIn_replies (v : Word) : (s.setDecIn v).replies = s.replies := rfl
@[simp] theorem State.setDecIn_draws (v : Word) : (s.setDecIn v).draws = s.draws := rfl
@[simp] theorem State.setDecIn_resets (v : Word) : (s.setDecIn v).resets = s.resets := rfl
@[simp] theorem State.setDecIn_busy (v : Word) : (s.setDecIn v).busy = s.busy := rfl

/-! ### setRawLen -/

@[simp] theorem State.setRawLen_fsm (v : Word) : (s.setRawLen v).fsm = s.fsm := rfl
@[simp] theorem State.setRawLen_err (v : Word) : (s.setRawLen v).err = s.err := rfl
@[simp] theorem State.setRawLen_hdrCause (v : Word) : (s.setRawLen v).hdrCause = s.hdrCause := rfl
@[simp] theorem State.setRawLen_addrErr (v : Word) : (s.setRawLen v).addrErr = s.addrErr := rfl
@[simp] theorem State.setRawLen_wrIgnored (v : Word) : (s.setRawLen v).wrIgnored = s.wrIgnored := rfl
@[simp] theorem State.setRawLen_f32Mode (v : Word) : (s.setRawLen v).f32Mode = s.f32Mode := rfl
@[simp] theorem State.setRawLen_lenPolicy (v : Word) : (s.setRawLen v).lenPolicy = s.lenPolicy := rfl
@[simp] theorem State.setRawLen_rawLen (v : Word) : (s.setRawLen v).rawLen = v := rfl
@[simp] theorem State.setRawLen_decIn (v : Word) : (s.setRawLen v).decIn = s.decIn := rfl
@[simp] theorem State.setRawLen_decInfo (v : Word) : (s.setRawLen v).decInfo = s.decInfo := rfl
@[simp] theorem State.setRawLen_decMant (v : Word) : (s.setRawLen v).decMant = s.decMant := rfl
@[simp] theorem State.setRawLen_decOutLo (v : Word) : (s.setRawLen v).decOutLo = s.decOutLo := rfl
@[simp] theorem State.setRawLen_decOutHi (v : Word) : (s.setRawLen v).decOutHi = s.decOutHi := rfl
@[simp] theorem State.setRawLen_hdrForm (v : Word) : (s.setRawLen v).hdrForm = s.hdrForm := rfl
@[simp] theorem State.setRawLen_hdrDigits (v : Word) : (s.setRawLen v).hdrDigits = s.hdrDigits := rfl
@[simp] theorem State.setRawLen_hdrLength (v : Word) : (s.setRawLen v).hdrLength = s.hdrLength := rfl
@[simp] theorem State.setRawLen_payloadOff (v : Word) : (s.setRawLen v).payloadOff = s.payloadOff := rfl
@[simp] theorem State.setRawLen_payloadBytes (v : Word) : (s.setRawLen v).payloadBytes = s.payloadBytes := rfl
@[simp] theorem State.setRawLen_sampleCount (v : Word) : (s.setRawLen v).sampleCount = s.sampleCount := rfl
@[simp] theorem State.setRawLen_ibuf (v : Word) : (s.setRawLen v).ibuf = s.ibuf := rfl
@[simp] theorem State.setRawLen_obuf (v : Word) : (s.setRawLen v).obuf = s.obuf := rfl
@[simp] theorem State.setRawLen_script (v : Word) : (s.setRawLen v).script = s.script := rfl
@[simp] theorem State.setRawLen_clock (v : Word) : (s.setRawLen v).clock = s.clock := rfl
@[simp] theorem State.setRawLen_granted (v : Word) : (s.setRawLen v).granted = s.granted := rfl
@[simp] theorem State.setRawLen_replies (v : Word) : (s.setRawLen v).replies = s.replies := rfl
@[simp] theorem State.setRawLen_draws (v : Word) : (s.setRawLen v).draws = s.draws := rfl
@[simp] theorem State.setRawLen_resets (v : Word) : (s.setRawLen v).resets = s.resets := rfl
@[simp] theorem State.setRawLen_busy (v : Word) : (s.setRawLen v).busy = s.busy := rfl

/-! ### setFsm -/

@[simp] theorem State.setFsm_fsm (f : Fsm) : (s.setFsm f).fsm = f := rfl
@[simp] theorem State.setFsm_err (f : Fsm) : (s.setFsm f).err = s.err := rfl
@[simp] theorem State.setFsm_hdrCause (f : Fsm) : (s.setFsm f).hdrCause = s.hdrCause := rfl
@[simp] theorem State.setFsm_addrErr (f : Fsm) : (s.setFsm f).addrErr = s.addrErr := rfl
@[simp] theorem State.setFsm_wrIgnored (f : Fsm) : (s.setFsm f).wrIgnored = s.wrIgnored := rfl
@[simp] theorem State.setFsm_f32Mode (f : Fsm) : (s.setFsm f).f32Mode = s.f32Mode := rfl
@[simp] theorem State.setFsm_lenPolicy (f : Fsm) : (s.setFsm f).lenPolicy = s.lenPolicy := rfl
@[simp] theorem State.setFsm_rawLen (f : Fsm) : (s.setFsm f).rawLen = s.rawLen := rfl
@[simp] theorem State.setFsm_decIn (f : Fsm) : (s.setFsm f).decIn = s.decIn := rfl
@[simp] theorem State.setFsm_decInfo (f : Fsm) : (s.setFsm f).decInfo = s.decInfo := rfl
@[simp] theorem State.setFsm_decMant (f : Fsm) : (s.setFsm f).decMant = s.decMant := rfl
@[simp] theorem State.setFsm_decOutLo (f : Fsm) : (s.setFsm f).decOutLo = s.decOutLo := rfl
@[simp] theorem State.setFsm_decOutHi (f : Fsm) : (s.setFsm f).decOutHi = s.decOutHi := rfl
@[simp] theorem State.setFsm_hdrForm (f : Fsm) : (s.setFsm f).hdrForm = s.hdrForm := rfl
@[simp] theorem State.setFsm_hdrDigits (f : Fsm) : (s.setFsm f).hdrDigits = s.hdrDigits := rfl
@[simp] theorem State.setFsm_hdrLength (f : Fsm) : (s.setFsm f).hdrLength = s.hdrLength := rfl
@[simp] theorem State.setFsm_payloadOff (f : Fsm) : (s.setFsm f).payloadOff = s.payloadOff := rfl
@[simp] theorem State.setFsm_payloadBytes (f : Fsm) : (s.setFsm f).payloadBytes = s.payloadBytes := rfl
@[simp] theorem State.setFsm_sampleCount (f : Fsm) : (s.setFsm f).sampleCount = s.sampleCount := rfl
@[simp] theorem State.setFsm_ibuf (f : Fsm) : (s.setFsm f).ibuf = s.ibuf := rfl
@[simp] theorem State.setFsm_obuf (f : Fsm) : (s.setFsm f).obuf = s.obuf := rfl
@[simp] theorem State.setFsm_script (f : Fsm) : (s.setFsm f).script = s.script := rfl
@[simp] theorem State.setFsm_clock (f : Fsm) : (s.setFsm f).clock = s.clock := rfl
@[simp] theorem State.setFsm_granted (f : Fsm) : (s.setFsm f).granted = s.granted := rfl
@[simp] theorem State.setFsm_replies (f : Fsm) : (s.setFsm f).replies = s.replies := rfl
@[simp] theorem State.setFsm_draws (f : Fsm) : (s.setFsm f).draws = s.draws := rfl
@[simp] theorem State.setFsm_resets (f : Fsm) : (s.setFsm f).resets = s.resets := rfl

/-! ### setScript -/

@[simp] theorem State.setScript_fsm (ops : List HostOp) : (s.setScript ops).fsm = s.fsm := rfl
@[simp] theorem State.setScript_err (ops : List HostOp) : (s.setScript ops).err = s.err := rfl
@[simp] theorem State.setScript_hdrCause (ops : List HostOp) : (s.setScript ops).hdrCause = s.hdrCause := rfl
@[simp] theorem State.setScript_addrErr (ops : List HostOp) : (s.setScript ops).addrErr = s.addrErr := rfl
@[simp] theorem State.setScript_wrIgnored (ops : List HostOp) : (s.setScript ops).wrIgnored = s.wrIgnored := rfl
@[simp] theorem State.setScript_f32Mode (ops : List HostOp) : (s.setScript ops).f32Mode = s.f32Mode := rfl
@[simp] theorem State.setScript_lenPolicy (ops : List HostOp) : (s.setScript ops).lenPolicy = s.lenPolicy := rfl
@[simp] theorem State.setScript_rawLen (ops : List HostOp) : (s.setScript ops).rawLen = s.rawLen := rfl
@[simp] theorem State.setScript_decIn (ops : List HostOp) : (s.setScript ops).decIn = s.decIn := rfl
@[simp] theorem State.setScript_decInfo (ops : List HostOp) : (s.setScript ops).decInfo = s.decInfo := rfl
@[simp] theorem State.setScript_decMant (ops : List HostOp) : (s.setScript ops).decMant = s.decMant := rfl
@[simp] theorem State.setScript_decOutLo (ops : List HostOp) : (s.setScript ops).decOutLo = s.decOutLo := rfl
@[simp] theorem State.setScript_decOutHi (ops : List HostOp) : (s.setScript ops).decOutHi = s.decOutHi := rfl
@[simp] theorem State.setScript_hdrForm (ops : List HostOp) : (s.setScript ops).hdrForm = s.hdrForm := rfl
@[simp] theorem State.setScript_hdrDigits (ops : List HostOp) : (s.setScript ops).hdrDigits = s.hdrDigits := rfl
@[simp] theorem State.setScript_hdrLength (ops : List HostOp) : (s.setScript ops).hdrLength = s.hdrLength := rfl
@[simp] theorem State.setScript_payloadOff (ops : List HostOp) : (s.setScript ops).payloadOff = s.payloadOff := rfl
@[simp] theorem State.setScript_payloadBytes (ops : List HostOp) : (s.setScript ops).payloadBytes = s.payloadBytes := rfl
@[simp] theorem State.setScript_sampleCount (ops : List HostOp) : (s.setScript ops).sampleCount = s.sampleCount := rfl
@[simp] theorem State.setScript_ibuf (ops : List HostOp) : (s.setScript ops).ibuf = s.ibuf := rfl
@[simp] theorem State.setScript_obuf (ops : List HostOp) : (s.setScript ops).obuf = s.obuf := rfl
@[simp] theorem State.setScript_script (ops : List HostOp) : (s.setScript ops).script = ops := rfl
@[simp] theorem State.setScript_clock (ops : List HostOp) : (s.setScript ops).clock = s.clock := rfl
@[simp] theorem State.setScript_granted (ops : List HostOp) : (s.setScript ops).granted = s.granted := rfl
@[simp] theorem State.setScript_replies (ops : List HostOp) : (s.setScript ops).replies = s.replies := rfl
@[simp] theorem State.setScript_draws (ops : List HostOp) : (s.setScript ops).draws = s.draws := rfl
@[simp] theorem State.setScript_resets (ops : List HostOp) : (s.setScript ops).resets = s.resets := rfl
@[simp] theorem State.setScript_busy (ops : List HostOp) : (s.setScript ops).busy = s.busy := rfl

/-! ### advance -/

@[simp] theorem State.advance_fsm : (s.advance).fsm = s.fsm := rfl
@[simp] theorem State.advance_err : (s.advance).err = s.err := rfl
@[simp] theorem State.advance_hdrCause : (s.advance).hdrCause = s.hdrCause := rfl
@[simp] theorem State.advance_addrErr : (s.advance).addrErr = s.addrErr := rfl
@[simp] theorem State.advance_wrIgnored : (s.advance).wrIgnored = s.wrIgnored := rfl
@[simp] theorem State.advance_f32Mode : (s.advance).f32Mode = s.f32Mode := rfl
@[simp] theorem State.advance_lenPolicy : (s.advance).lenPolicy = s.lenPolicy := rfl
@[simp] theorem State.advance_rawLen : (s.advance).rawLen = s.rawLen := rfl
@[simp] theorem State.advance_decIn : (s.advance).decIn = s.decIn := rfl
@[simp] theorem State.advance_decInfo : (s.advance).decInfo = s.decInfo := rfl
@[simp] theorem State.advance_decMant : (s.advance).decMant = s.decMant := rfl
@[simp] theorem State.advance_decOutLo : (s.advance).decOutLo = s.decOutLo := rfl
@[simp] theorem State.advance_decOutHi : (s.advance).decOutHi = s.decOutHi := rfl
@[simp] theorem State.advance_hdrForm : (s.advance).hdrForm = s.hdrForm := rfl
@[simp] theorem State.advance_hdrDigits : (s.advance).hdrDigits = s.hdrDigits := rfl
@[simp] theorem State.advance_hdrLength : (s.advance).hdrLength = s.hdrLength := rfl
@[simp] theorem State.advance_payloadOff : (s.advance).payloadOff = s.payloadOff := rfl
@[simp] theorem State.advance_payloadBytes : (s.advance).payloadBytes = s.payloadBytes := rfl
@[simp] theorem State.advance_sampleCount : (s.advance).sampleCount = s.sampleCount := rfl
@[simp] theorem State.advance_ibuf : (s.advance).ibuf = s.ibuf := rfl
@[simp] theorem State.advance_obuf : (s.advance).obuf = s.obuf := rfl
@[simp] theorem State.advance_script : (s.advance).script = s.script := rfl
@[simp] theorem State.advance_clock : (s.advance).clock = if s.contended then s.clock + 1 else s.clock := rfl
@[simp] theorem State.advance_granted : (s.advance).granted = false := rfl
@[simp] theorem State.advance_replies : (s.advance).replies = s.replies := rfl
@[simp] theorem State.advance_draws : (s.advance).draws = s.draws := rfl
@[simp] theorem State.advance_resets : (s.advance).resets = s.resets := rfl
@[simp] theorem State.advance_busy : (s.advance).busy = s.busy := rfl

/-! ### clearResults -/

@[simp] theorem State.clearResults_fsm : (s.clearResults).fsm = s.fsm := rfl
@[simp] theorem State.clearResults_err : (s.clearResults).err = s.err := rfl
@[simp] theorem State.clearResults_hdrCause : (s.clearResults).hdrCause = s.hdrCause := rfl
@[simp] theorem State.clearResults_addrErr : (s.clearResults).addrErr = s.addrErr := rfl
@[simp] theorem State.clearResults_wrIgnored : (s.clearResults).wrIgnored = s.wrIgnored := rfl
@[simp] theorem State.clearResults_f32Mode : (s.clearResults).f32Mode = s.f32Mode := rfl
@[simp] theorem State.clearResults_lenPolicy : (s.clearResults).lenPolicy = s.lenPolicy := rfl
@[simp] theorem State.clearResults_rawLen : (s.clearResults).rawLen = s.rawLen := rfl
@[simp] theorem State.clearResults_decIn : (s.clearResults).decIn = s.decIn := rfl
@[simp] theorem State.clearResults_decInfo : (s.clearResults).decInfo = s.decInfo := rfl
@[simp] theorem State.clearResults_decMant : (s.clearResults).decMant = s.decMant := rfl
@[simp] theorem State.clearResults_decOutLo : (s.clearResults).decOutLo = s.decOutLo := rfl
@[simp] theorem State.clearResults_decOutHi : (s.clearResults).decOutHi = s.decOutHi := rfl
@[simp] theorem State.clearResults_hdrForm : (s.clearResults).hdrForm = 0#32 := rfl
@[simp] theorem State.clearResults_hdrDigits : (s.clearResults).hdrDigits = 0#32 := rfl
@[simp] theorem State.clearResults_hdrLength : (s.clearResults).hdrLength = 0#32 := rfl
@[simp] theorem State.clearResults_payloadOff : (s.clearResults).payloadOff = 0#32 := rfl
@[simp] theorem State.clearResults_payloadBytes : (s.clearResults).payloadBytes = 0#32 := rfl
@[simp] theorem State.clearResults_sampleCount : (s.clearResults).sampleCount = 0#32 := rfl
@[simp] theorem State.clearResults_ibuf : (s.clearResults).ibuf = s.ibuf := rfl
@[simp] theorem State.clearResults_obuf : (s.clearResults).obuf = s.obuf := rfl
@[simp] theorem State.clearResults_script : (s.clearResults).script = s.script := rfl
@[simp] theorem State.clearResults_clock : (s.clearResults).clock = s.clock := rfl
@[simp] theorem State.clearResults_granted : (s.clearResults).granted = s.granted := rfl
@[simp] theorem State.clearResults_replies : (s.clearResults).replies = s.replies := rfl
@[simp] theorem State.clearResults_draws : (s.clearResults).draws = s.draws := rfl
@[simp] theorem State.clearResults_resets : (s.clearResults).resets = s.resets := rfl
@[simp] theorem State.clearResults_busy : (s.clearResults).busy = s.busy := rfl

/-! ### resetEvent -/

@[simp] theorem State.resetEvent_fsm : s.resetEvent.fsm = .idle := rfl
@[simp] theorem State.resetEvent_err : s.resetEvent.err = .none := rfl
@[simp] theorem State.resetEvent_hdrCause : s.resetEvent.hdrCause = .none := rfl
@[simp] theorem State.resetEvent_addrErr : s.resetEvent.addrErr = false := rfl
@[simp] theorem State.resetEvent_wrIgnored : s.resetEvent.wrIgnored = false := rfl
@[simp] theorem State.resetEvent_f32Mode : s.resetEvent.f32Mode = .manual := rfl
@[simp] theorem State.resetEvent_lenPolicy : s.resetEvent.lenPolicy = .lenient := rfl
@[simp] theorem State.resetEvent_rawLen : s.resetEvent.rawLen = 0#32 := rfl
@[simp] theorem State.resetEvent_decIn : s.resetEvent.decIn = 0#32 := rfl
@[simp] theorem State.resetEvent_decInfo : s.resetEvent.decInfo = 0#32 := rfl
@[simp] theorem State.resetEvent_decMant : s.resetEvent.decMant = 0#32 := rfl
@[simp] theorem State.resetEvent_decOutLo : s.resetEvent.decOutLo = 0#32 := rfl
@[simp] theorem State.resetEvent_decOutHi : s.resetEvent.decOutHi = 0#32 := rfl
@[simp] theorem State.resetEvent_hdrForm : s.resetEvent.hdrForm = 0#32 := rfl
@[simp] theorem State.resetEvent_hdrDigits : s.resetEvent.hdrDigits = 0#32 := rfl
@[simp] theorem State.resetEvent_hdrLength : s.resetEvent.hdrLength = 0#32 := rfl
@[simp] theorem State.resetEvent_payloadOff : s.resetEvent.payloadOff = 0#32 := rfl
@[simp] theorem State.resetEvent_payloadBytes : s.resetEvent.payloadBytes = 0#32 := rfl
@[simp] theorem State.resetEvent_sampleCount : s.resetEvent.sampleCount = 0#32 := rfl
@[simp] theorem State.resetEvent_ibuf : s.resetEvent.ibuf = [] := rfl
@[simp] theorem State.resetEvent_obuf : s.resetEvent.obuf = [] := rfl
@[simp] theorem State.resetEvent_script : s.resetEvent.script = s.script := rfl
@[simp] theorem State.resetEvent_clock : s.resetEvent.clock = s.clock := rfl
@[simp] theorem State.resetEvent_granted : s.resetEvent.granted = s.granted := rfl
@[simp] theorem State.resetEvent_replies : s.resetEvent.replies = s.replies := rfl
@[simp] theorem State.resetEvent_draws : s.resetEvent.draws = s.draws := rfl
@[simp] theorem State.resetEvent_resets : s.resetEvent.resets = s.resets + 1 := rfl
@[simp] theorem State.resetEvent_busy : s.resetEvent.busy = false := rfl

end Sys2Proof.Machine
end

