-- ==== Sys2Proof/Laws/Memory.lean ====
section
/-! SUPPORT. The laws of the sparse memory: a read after a write, that a write leaves every other key alone, and that every
operation keeps the canonical form. -/

namespace Sys2Proof.Machine

variable {α : Type}

theorem Memory.find_put (m : List (Nat × α)) (a b : Nat) (v : α) :
    Memory.find (Memory.put m a v) b = if a = b then some v else Memory.find m b := by
  induction m with
  | nil => simp [Memory.put, Memory.find]
  | cons c rest ih =>
    obtain ⟨k, w⟩ := c
    unfold Memory.put
    split
    · simp [Memory.find]
    · split
      · subst_vars
        simp only [Memory.find]
        split <;> rfl
      · simp only [Memory.find, ih]
        by_cases hkb : k = b <;> by_cases hab : a = b <;> simp_all

theorem Memory.find_put_same (m : List (Nat × α)) (a : Nat) (v : α) :
    Memory.find (Memory.put m a v) a = some v := by simp [Memory.find_put]

theorem Memory.find_put_other (m : List (Nat × α)) {a b : Nat} (v : α) (h : a ≠ b) :
    Memory.find (Memory.put m a v) b = Memory.find m b := by simp [Memory.find_put, h]

/-- A block write gives each key of the block its value, and leaves every other key alone. -/
theorem Memory.find_putAll (vs : List α) (m : List (Nat × α)) (a b : Nat) :
    Memory.find (Memory.putAll m a vs) b =
      if a ≤ b ∧ b < a + vs.length then vs[b - a]? else Memory.find m b := by
  induction vs generalizing m a with
  | nil => simp [Memory.putAll]
  | cons v vs ih =>
    simp only [Memory.putAll, ih, Memory.find_put, List.length_cons]
    rcases Nat.lt_trichotomy b a with h | h | h
    · rw [if_neg (by omega), if_neg (by omega), if_neg (by omega)]
    · subst h
      rw [if_neg (by omega), if_pos rfl, if_pos (by omega)]
      simp
    · by_cases hb : b < a + 1 + vs.length
      · rw [if_pos (by omega), if_pos (by omega), show b - a = (b - (a + 1)) + 1 by omega]
        simp
      · rw [if_neg (by omega), if_neg (by omega), if_neg (by omega)]

theorem Memory.risingFrom_mono {cap lo lo' : Nat} (h : lo' ≤ lo) {m : List (Nat × α)}
    (hm : Memory.risingFrom cap lo m = true) : Memory.risingFrom cap lo' m = true := by
  cases m with
  | nil => rfl
  | cons c rest =>
    simp only [Memory.risingFrom, Bool.and_eq_true, decide_eq_true_eq] at hm ⊢
    exact ⟨⟨by omega, hm.1.2⟩, hm.2⟩

theorem Memory.risingFrom_put {cap lo a : Nat} (v : α) {m : List (Nat × α)} (hlo : lo ≤ a) (ha : a < cap)
    (hm : Memory.risingFrom cap lo m = true) : Memory.risingFrom cap lo (Memory.put m a v) = true := by
  induction m generalizing lo with
  | nil => simp [Memory.put, Memory.risingFrom, hlo, ha]
  | cons c rest ih =>
    obtain ⟨k, w⟩ := c
    simp only [Memory.risingFrom, Bool.and_eq_true, decide_eq_true_eq] at hm
    obtain ⟨⟨h1, h2⟩, h3⟩ := hm
    unfold Memory.put
    split
    · simp [Memory.risingFrom, hlo, ha, h2, h3]; omega
    · split
      · subst_vars; simp [Memory.risingFrom, hlo, ha, h3]
      · simp only [Memory.risingFrom, Bool.and_eq_true, decide_eq_true_eq]
        exact ⟨⟨h1, h2⟩, ih (by omega) h3⟩

theorem Memory.wf_put {cap a : Nat} (v : α) {m : List (Nat × α)} (ha : a < cap) (hm : Memory.wf cap m = true) :
    Memory.wf cap (Memory.put m a v) = true := Memory.risingFrom_put v (Nat.zero_le a) ha hm

theorem Memory.wf_putAll {cap : Nat} (vs : List α) {a : Nat} {m : List (Nat × α)} (ha : a + vs.length ≤ cap)
    (hm : Memory.wf cap m = true) : Memory.wf cap (Memory.putAll m a vs) = true := by
  induction vs generalizing a m with
  | nil => exact hm
  | cons v vs ih =>
    simp only [List.length_cons] at ha
    exact ih (by omega) (Memory.wf_put v (by omega) hm)

/-- The reset state's buffers list nothing, so they are in canonical form. -/
theorem Memory.wf_reset (n : Nat) : Memory.wf n State.reset.ibuf = true ∧
    Memory.wf (Config.obufSamples n) State.reset.obuf = true := ⟨rfl, rfl⟩

end Sys2Proof.Machine
end

