-- ==== Sys2Proof/Laws/Ops.lean ====
section
/-! SUPPORT. One law per shared operation: the busy gate, buffer reads after buffer writes, and the words STATUS and CFG
show. -/

namespace Sys2Proof.Machine

/-! ### The busy gate -/

theorem State.busy_iff {s : State} : s.busy = true ↔ ∃ job, s.fsm = .parsing job := by
  unfold State.busy
  cases s.fsm <;> simp

theorem State.idle_iff {s : State} : s.busy = false ↔ s.fsm = .idle := by
  unfold State.busy
  cases s.fsm <;> simp

@[simp] theorem State.whenIdle_idle {s : State} (h : s.busy = false) (f : State → State) : s.whenIdle f = f s := by
  simp [State.whenIdle, h]

@[simp] theorem State.whenIdle_busy {s : State} (h : s.busy = true) (f : State → State) :
    s.whenIdle f = s.ignoreWrite := by simp [State.whenIdle, h]

/-- All that the busy gate can do. -/
theorem State.whenIdle_cases (s : State) (f : State → State) :
    (s.busy = true ∧ s.whenIdle f = s.ignoreWrite) ∨ (s.busy = false ∧ s.whenIdle f = f s) := by
  cases h : s.busy <;> simp [h]

/-! ### Buffers -/

theorem byteOfWord_wordOfBytes (b0 b1 b2 b3 : Byte) :
    byteOfWord (wordOfBytes b0 b1 b2 b3) 0 = b0 ∧ byteOfWord (wordOfBytes b0 b1 b2 b3) 1 = b1 ∧
      byteOfWord (wordOfBytes b0 b1 b2 b3) 2 = b2 ∧ byteOfWord (wordOfBytes b0 b1 b2 b3) 3 = b3 := by
  refine ⟨?_, ?_, ?_, ?_⟩ <;>
  · simp only [byteOfWord, wordOfBytes]
    ext i hi
    simp [BitVec.getElem_extractLsb']
    grind

theorem wordOfBytes_byteOfWord (v : Word) :
    wordOfBytes (byteOfWord v 0) (byteOfWord v 1) (byteOfWord v 2) (byteOfWord v 3) = v := by
  simp only [byteOfWord, wordOfBytes]
  ext i hi
  simp only [BitVec.getElem_append, BitVec.getElem_extractLsb']
  grind

/-- A word written to IBUF is read back byte by byte; every other byte is left alone (20_memory R63). -/
theorem ibufByte_putIbufWord (s : State) (k i : Nat) (v : Word) :
    ibufByte (s.putIbufWord k v) i =
      if 4 * k ≤ i ∧ i < 4 * k + 4 then byteOfWord v (i - 4 * k) else ibufByte s i := by
  simp only [ibufByte, State.putIbufWord_ibuf, State.putIbufWord_resets, Memory.find_putAll, List.length_cons,
    List.length_nil]
  by_cases h : 4 * k ≤ i ∧ i < 4 * k + 4
  · rw [if_pos h, if_pos h]
    obtain h' | h' | h' | h' : i - 4 * k = 0 ∨ i - 4 * k = 1 ∨ i - 4 * k = 2 ∨ i - 4 * k = 3 := by omega
    all_goals rw [h']; rfl
  · rw [if_neg h, if_neg h]

/-- Samples written to OBUF from entry 0 on; every other entry is left alone (42_block_framer R195). -/
theorem obufEntry_putSamples (s : State) (vs : List DWord) (j : Nat) :
    obufEntry (s.putSamples vs) j = (vs[j]?).getD (obufEntry s j) := by
  simp only [obufEntry, State.putSamples_obuf, State.putSamples_resets, Memory.find_putAll]
  by_cases h : j < vs.length <;> simp [h]

/-! ### The job -/

theorem length_ibufBytesUpTo (s : State) (n : Nat) : (ibufBytesUpTo s n).length = n := by simp [ibufBytesUpTo]

theorem getElem?_ibufBytesUpTo (s : State) {n i : Nat} (h : i < n) :
    (ibufBytesUpTo s n)[i]? = some (ibufByte s i) := by simp [ibufBytesUpTo, h]

/-- The job depends only on RAW_LEN, CFG and the bytes below RAW_LEN (20_memory R79). -/
theorem captureJob_congr {s t : State} (hn : s.rawLen = t.rawLen) (hm : s.f32Mode = t.f32Mode)
    (hp : s.lenPolicy = t.lenPolicy) (hb : ∀ i < s.rawLen.toNat, ibufByte s i = ibufByte t i) :
    captureJob s = captureJob t := by
  simp only [captureJob, Job.mk.injEq, ibufBytesUpTo, hm, hp, and_true, ← hn]
  exact List.map_congr_left fun i hi => hb i (List.mem_range.mp hi)

/-! ### STATUS and CFG words -/

@[simp] theorem State.statusWord_busy (s : State) : s.statusWord.getLsbD 0 = s.busy := by
  unfold State.statusWord
  rw [BitVec.getLsbD_append]
  simp

@[simp] theorem F32Mode.bit_ofBit (b : Bool) : (F32Mode.ofBit b).bit = b := by cases b <;> rfl

@[simp] theorem LenPolicy.bit_ofBit (b : Bool) : (LenPolicy.ofBit b).bit = b := by cases b <;> rfl

end Sys2Proof.Machine
end

