-- ==== Sys2Proof/Laws/Bus.lean ====
section
/-! SUPPORT. What the bus can do, said once: the address map from both sides, and the inversion of reads and writes. -/

namespace Sys2Proof.Machine

/-! ### IBUF_BYTES (00_scope R12) -/

theorem ibufBytesLegal_iff {n : Nat} : ibufBytesLegal n = true ↔ n % 4 = 0 ∧ 16 ≤ n ∧ n ≤ 1048576 := by
  simp only [ibufBytesLegal, Bool.and_eq_true, decide_eq_true_eq, and_assoc]
  rfl

/-- The instance's size is legal, whichever it is. -/
theorem Config.ibufBytes_legal : ibufBytesLegal Config.ibufBytes = true := by
  have := Config.ibufStep.isLt
  rw [ibufBytesLegal_iff]
  unfold Config.ibufBytes Config.ibufMin
  omega

theorem Config.params_legal : Config.params.legal = true := Config.ibufBytes_legal

/-! ### The address map (20_memory R62) -/

/-- All that an address can select. -/
theorem locate_cases (n : Nat) (a : Addr) (l : Loc) (h : locate n a = some l) :
    a.toNat % 4 = 0 ∧
      ((a.toNat < 0x40 ∧ ∃ r, l = .reg r ∧ regAt (a.toNat / 4) = some r) ∨
        (0x100000 ≤ a.toNat ∧ a.toNat < 0x100000 + n ∧ a.toNat < 0x200000 ∧
          l = .ibufWord ((a.toNat - 0x100000) / 4)) ∨
        (0x200000 ≤ a.toNat ∧ a.toNat < 0x200000 + 8 * Config.obufSamples n ∧
          ((a.toNat % 8 = 0 ∧ l = .obufLo ((a.toNat - 0x200000) / 8)) ∨
            (a.toNat % 8 = 4 ∧ l = .obufHi ((a.toNat - 0x200000) / 8))))) := by
  simp only [locate] at h
  split at h
  · cases h
  · rename_i h4
    refine ⟨by omega, ?_⟩
    split at h
    · rename_i hr
      obtain ⟨r, hr', rfl⟩ := Option.map_eq_some_iff.mp h
      exact .inl ⟨hr, r, rfl, hr'⟩
    · split at h
      · rename_i hi
        obtain rfl := Option.some.inj h
        exact .inr (.inl ⟨hi.1, hi.2.1, hi.2.2, rfl⟩)
      · split at h
        · rename_i ho
          refine .inr (.inr ⟨ho.1, ho.2, ?_⟩)
          split at h
          · obtain rfl := Option.some.inj h
            exact .inl ⟨by omega, rfl⟩
          · obtain rfl := Option.some.inj h
            exact .inr ⟨by omega, rfl⟩
        · cases h

/-- The IBUF word a written address selects lies inside IBUF. -/
theorem ibufWord_in_range {n : Nat} {a : Addr} {k : Nat} (hn : n % 4 = 0) (h : locate n a = some (.ibufWord k)) :
    4 * k + 4 ≤ n := by
  obtain ⟨h4, ⟨_, r, hr, _⟩ | ⟨h1, h2, _, hl⟩ | ⟨_, _, ⟨_, hl⟩ | ⟨_, hl⟩⟩⟩ := locate_cases n a _ h
  · cases hr
  · cases hl; omega
  · cases hl
  · cases hl

theorem locate_misaligned {n : Nat} {a : Addr} (h : a.toNat % 4 ≠ 0) : locate n a = none := by simp [locate, h]

theorem locate_ibuf {n : Nat} {a : Addr} (h4 : a.toNat % 4 = 0) (h1 : 0x100000 ≤ a.toNat)
    (h2 : a.toNat < 0x100000 + n) (h3 : a.toNat < 0x200000) :
    locate n a = some (.ibufWord ((a.toNat - 0x100000) / 4)) := by
  simp only [locate]
  rw [if_neg (by omega), if_neg (by omega), if_pos ⟨h1, h2, h3⟩]

theorem locate_obuf {n : Nat} {a : Addr} (h4 : a.toNat % 4 = 0) (h1 : 0x200000 ≤ a.toNat)
    (h2 : a.toNat < 0x200000 + 8 * Config.obufSamples n) :
    locate n a = some (if a.toNat % 8 = 0 then .obufLo ((a.toNat - 0x200000) / 8)
      else .obufHi ((a.toNat - 0x200000) / 8)) := by
  simp only [locate]
  rw [if_neg (by omega), if_neg (by omega), if_neg (by omega), if_pos ⟨h1, h2⟩]
  by_cases h8 : a.toNat % 8 = 0
  · rw [if_pos (by omega), if_pos h8]
  · rw [if_neg (by omega), if_neg h8]

/-- A register's address selects that register in every unit. -/
theorem locate_reg (n : Nat) (r : Reg) : locate n r.addr = some (.reg r) := by
  cases r <;> simp [locate, Reg.addr, regAt]

/-! ### Reads -/

/-- All that a host read can do: a reply, and ADDR_ERR or one draw with it (20_memory R70, R64). -/
theorem State.busRead_cases (s : State) (n : Nat) (a : Addr) (size : Nat) :
    s.busRead n a size = s.setAddrErr.reply 0#32 ∨ (∃ v, s.busRead n a size = s.reply v) ∨
      (s.busy = true ∧ s.busRead n a size = s.replyDraw) := by
  have hres : ∀ v, (∃ u, s.replyResult v = s.reply u) ∨ (s.busy = true ∧ s.replyResult v = s.replyDraw) := by
    intro v
    unfold State.replyResult
    cases hb : s.busy
    · exact .inl ⟨v, rfl⟩
    · exact .inr ⟨rfl, rfl⟩
  unfold State.busRead
  split
  · split
    · rename_i l _
      right
      cases l with
      | reg r => cases r <;> first | exact .inl ⟨_, rfl⟩ | exact hres _
      | ibufWord k => exact .inl ⟨_, rfl⟩
      | obufLo j => exact hres _
      | obufHi j => exact hres _
    · exact .inl rfl
  · exact .inl rfl

/-! ### Writes -/

/-- The instance's commands are those of a unit of its size. -/
theorem exec_eq_execOf (i : Instr) (s : State) : exec i s = execOf Config.ibufBytes i s := by cases i <;> rfl

/-- All that a host write of a word to CMD can do (40_command_interface R120). -/
theorem State.writeCmd_cases (s : State) (n : Nat) (v : Word) :
    (s.busy = true ∧ s.writeCmd n v = .next s.ignoreWrite) ∨
      (s.busy = false ∧
        (s.writeCmd n v = .next s ∨ (decode v = .ok .decode ∧ s.writeCmd n v = .next s.doDecode) ∨
          (decode v = .ok .parse ∧ s.writeCmd n v = .next (s.acceptParse n)) ∨
          s.writeCmd n v = .next (s.raise .illegalCmd .none))) := by
  unfold State.writeCmd
  cases hb : s.busy
  · refine .inr ⟨rfl, ?_⟩
    cases hd : decode v with
    | error e => simp [State.illegalCmd, hb]
    | ok i => cases i <;> simp [execOf, execNop, execDecode, execParseOf, hb]
  · refine .inl ⟨rfl, ?_⟩
    cases hd : decode v with
    | error e => simp [State.illegalCmd, hb]
    | ok i => cases i <;> simp [execOf, execNop, execDecode, execParseOf, hb]

/-- All that a host write can do, and to which place: set one of the sticky flags, clear them, take a register or an IBUF
word, or start a command. -/
theorem State.busWrite_cases (s : State) (n : Nat) (a : Addr) (size : Nat) (v : Word) :
    s.busWrite n a size v = .next s.setAddrErr ∨
      (s.busy = true ∧ s.busWrite n a size v = .next s.ignoreWrite) ∨
      (size = 32 ∧ locate n a = some (.reg .status) ∧ s.busWrite n a size v = .next (s.writeStatus v)) ∨
      (size = 32 ∧ locate n a = some (.reg .decIn) ∧ s.busWrite n a size v = .next (s.setDecIn v)) ∨
      (s.busy = false ∧ size = 32 ∧
        ((locate n a = some (.reg .cfg) ∧ s.busWrite n a size v = .next (s.writeCfg v)) ∨
          (locate n a = some (.reg .rawLen) ∧ s.busWrite n a size v = .next (s.setRawLen v)) ∨
          (∃ k, locate n a = some (.ibufWord k) ∧ s.busWrite n a size v = .next (s.putIbufWord k v)) ∨
          (locate n a = some (.reg .cmd) ∧ s.busWrite n a size v = s.writeCmd n v))) := by
  unfold State.busWrite
  split
  · rename_i hsize
    split
    · rename_i l hl
      cases hb : s.busy
      · cases l with
        | reg r =>
          cases r <;> simp [State.writeLoc, State.writeReg, hb, hsize, hl]
        | ibufWord k => simp [State.writeLoc, hb, hsize, hl]
        | obufLo j => exact .inl rfl
        | obufHi j => exact .inl rfl
      · cases l with
        | reg r =>
          have := s.writeCmd_cases n v
          cases r <;> simp_all [State.writeLoc, State.writeReg]
        | ibufWord k => simp [State.writeLoc, hb]
        | obufLo j => exact .inl rfl
        | obufHi j => exact .inl rfl
    · exact .inl rfl
  · exact .inl rfl

end Sys2Proof.Machine
end

