-- ==== Sys2Proof/Laws/Framer.lean ====
section
/-! SUPPORT. What the framer's functions can answer, said once: the scan for the count part, the length part, the header,
the chunks, and the registers a completion leaves. -/

namespace Sys2Proof.Machine

/-! ### Header -/

/-- A count part that scans is digits up to the first `)` (42_block_framer R184). -/
theorem scanCount_ok {bs : List Byte} {i dc dc' p : Nat} {after : List Byte}
    (h : scanCount bs i dc = .ok (dc', p, after)) :
    ∃ ds, bs = ds ++ 0x29#8 :: after ∧ allDigits ds ∧ dc' = ds.foldl foldDigit dc ∧ p = i + ds.length + 1 ∧
      (i = 2 → ds ≠ []) := by
  induction bs generalizing i dc with
  | nil => simp [scanCount] at h
  | cons c rest ih =>
    unfold scanCount at h
    split at h
    · rename_i hc
      split at h
      · cases h
      · cases h
        exact ⟨[], by simp [hc], by simp [allDigits], rfl, by simp, by omega⟩
    · split at h
      · rename_i hd
        obtain ⟨ds, rfl, hall, rfl, rfl, _⟩ := ih h
        refine ⟨c :: ds, rfl, ?_, rfl, by simp; omega, by simp⟩
        simpa [allDigits, hd] using hall
      · cases h

/-- A length part that reads is `k` digits (42_block_framer R186). -/
theorem readLength_ok {bs : List Byte} {k len len' : Nat} {rest : List Byte}
    (h : readLength bs k len = .ok (len', rest)) :
    ∃ ds, bs = ds ++ rest ∧ ds.length = k ∧ allDigits ds ∧ len' = ds.foldl foldDigit len := by
  induction bs generalizing k len with
  | nil =>
    cases k with
    | zero => cases h; exact ⟨[], rfl, rfl, by simp [allDigits], rfl⟩
    | succ k => cases h
  | cons c bs ih =>
    cases k with
    | zero => cases h; exact ⟨[], rfl, rfl, by simp [allDigits], rfl⟩
    | succ k =>
      simp only [readLength] at h
      split at h
      · rename_i hd
        obtain ⟨ds, rfl, hlen, hall, rfl⟩ := ih h
        exact ⟨c :: ds, rfl, by simp [hlen], by simpa [allDigits, hd] using hall, rfl⟩
      · cases h

/-- The length part never fails without a cause. -/
theorem readLength_error {bs : List Byte} {k len : Nat} {c : HdrCause} (h : readLength bs k len = .error c) :
    c = .truncated ∨ c = .badDigit := by
  induction bs generalizing k len with
  | nil => cases k <;> cases h; exact .inl rfl
  | cons b bs ih =>
    cases k with
    | zero => cases h
    | succ k =>
      simp only [readLength] at h
      split at h
      · exact ih h
      · cases h; exact .inr rfl

/-- The scan never fails without a cause. -/
theorem scanCount_error {bs : List Byte} {i dc : Nat} {c : HdrCause} (h : scanCount bs i dc = .error c) :
    c = .badDigit ∨ c = .noCloseParen := by
  induction bs generalizing i dc with
  | nil => cases h; exact .inr rfl
  | cons b bs ih =>
    unfold scanCount at h
    split at h
    · split at h <;> cases h
      exact .inl rfl
    · split at h
      · exact ih h
      · cases h; exact .inl rfl

theorem finishHeader_cases (form : HdrForm) (dc p : Nat) (rest : List Byte) :
    (∃ c, readLength rest dc 0 = .error c ∧ finishHeader form dc p rest = .error c) ∨
      ∃ len payload, readLength rest dc 0 = .ok (len, payload) ∧
        finishHeader form dc p rest = .ok (⟨form, dc, len, p + dc⟩, payload) := by
  unfold finishHeader
  rcases readLength rest dc 0 with c | ⟨len, payload⟩
  · exact .inl ⟨c, rfl, rfl⟩
  · exact .inr ⟨len, payload, rfl, rfl⟩

/-- All that parseHeader can answer (42_block_framer R182 to R186). -/
theorem parseHeader_cases (bs : List Byte) :
    ((bs = [] ∨ ∃ m rest, bs = m :: rest ∧ m ≠ 0x23#8) ∧ parseHeader bs = .error .noMarker) ∨
      (bs = [0x23#8] ∧ parseHeader bs = .error .truncated) ∨
      (∃ c rest, bs = 0x23#8 :: c :: rest ∧ c ≠ 0x28#8 ∧
        ((isDigit c = false ∧ parseHeader bs = .error .badDigit) ∨
          (isDigit c = true ∧ parseHeader bs = finishHeader .plain (digitVal c) 2 rest))) ∨
      (∃ rest, bs = 0x23#8 :: 0x28#8 :: rest ∧
        ((∃ e, scanCount rest 2 0 = .error e ∧ parseHeader bs = .error e) ∨
          ∃ dc p after, scanCount rest 2 0 = .ok (dc, p, after) ∧
            parseHeader bs = finishHeader .paren dc p after)) := by
  rcases bs with _ | ⟨m, rest⟩
  · exact .inl ⟨.inl rfl, rfl⟩
  by_cases hm : m = 0x23#8
  · subst hm
    rcases rest with _ | ⟨c, rest⟩
    · exact .inr (.inl ⟨rfl, rfl⟩)
    by_cases hc : c = 0x28#8
    · subst hc
      refine .inr (.inr (.inr ⟨rest, rfl, ?_⟩))
      rcases hs : scanCount rest 2 0 with e | ⟨dc, p, after⟩
      · exact .inl ⟨e, rfl, by simp [parseHeader, hs]⟩
      · exact .inr ⟨dc, p, after, rfl, by simp [parseHeader, hs]⟩
    · refine .inr (.inr (.inl ⟨c, rest, rfl, hc, ?_⟩))
      cases hd : isDigit c
      · exact .inl ⟨rfl, by simp [parseHeader, hc, hd]⟩
      · exact .inr ⟨rfl, by simp [parseHeader, hc, hd]⟩
  · exact .inl ⟨.inr ⟨m, rest, rfl, hm⟩, by simp [parseHeader, hm]⟩

/-- A header that fails has one of the four causes, never NONE (42_block_framer R189). -/
theorem parseHeader_error_ne_none {bs : List Byte} {c : HdrCause} (h : parseHeader bs = .error c) : c ≠ .none := by
  have fin : ∀ form dc p rest, finishHeader form dc p rest = .error c → c ≠ .none := by
    intro form dc p rest hf
    rcases finishHeader_cases form dc p rest with ⟨e, he, hfe⟩ | ⟨_, _, _, hok⟩
    · rw [hf] at hfe
      cases hfe
      rcases readLength_error he with rfl | rfl <;> simp
    · rw [hf] at hok; cases hok
  rcases parseHeader_cases bs with ⟨_, he⟩ | ⟨_, he⟩ | ⟨b, rest, _, _, ⟨_, he⟩ | ⟨_, he⟩⟩ |
      ⟨rest, _, ⟨e, hs, he⟩ | ⟨dc, p, after, _, he⟩⟩
  · rw [h] at he; cases he; simp
  · rw [h] at he; cases he; simp
  · rw [h] at he; cases he; simp
  · exact fin _ _ _ _ (he ▸ h)
  · rw [h] at he; cases he
    rcases scanCount_error hs with rfl | rfl <;> simp
  · exact fin _ _ _ _ (he ▸ h)

/-! ### Chunks and results -/

/-- The length policy, in words (42_block_framer R194). -/
theorem lengthViolates_iff {policy : LenPolicy} {h : Header} {pb : Nat} :
    lengthViolates policy h pb = true ↔ policy = .strict ∧ h.digits ≠ 0 ∧ h.length ≠ pb := by
  simp [lengthViolates, and_assoc]

/-- All that steps 4 to 7 can answer (42_block_framer R191 to R197). -/
theorem parsePayload_cases (mode : F32Mode) (policy : LenPolicy) (n : Nat) (h : Header) (payload : List Byte) :
    ((policy = .strict ∧ h.digits ≠ 0 ∧ h.length ≠ n - 1 - h.offset) ∧
        parsePayload mode policy n h payload = .lengthMismatch h (n - 1 - h.offset)) ∨
      (¬(policy = .strict ∧ h.digits ≠ 0 ∧ h.length ≠ n - 1 - h.offset) ∧
        (((n - 1 - h.offset) / 4 < 10 ∧ parsePayload mode policy n h payload = .tooShort h (n - 1 - h.offset)
            ((chunkWords ((n - 1 - h.offset) / 4) payload).map (decodeF32 mode))) ∨
          (10 ≤ (n - 1 - h.offset) / 4 ∧ parsePayload mode policy n h payload = .success h (n - 1 - h.offset)
            ((chunkWords ((n - 1 - h.offset) / 4) payload).map (decodeF32 mode))))) := by
  rw [← lengthViolates_iff]
  have hpb : payloadLength n h.offset = n - 1 - h.offset := rfl
  by_cases hv : lengthViolates policy h (n - 1 - h.offset) = true
  · exact .inl ⟨hv, by simp [parsePayload, hpb, hv]⟩
  · refine .inr ⟨hv, ?_⟩
    by_cases hs : (n - 1 - h.offset) / 4 < 10
    · exact .inl ⟨hs, by simp [parsePayload, hpb, hv, hs, Config.minSamples]⟩
    · exact .inr ⟨Nat.le_of_not_lt hs, by simp [parsePayload, hpb, hv, hs, Config.minSamples]⟩

/-- There are as many chunks as asked for, when the bytes suffice (30_encoding R97). -/
theorem length_chunkWords {ns : Nat} {bs : List Byte} (h : 4 * ns ≤ bs.length) : (chunkWords ns bs).length = ns := by
  induction ns generalizing bs with
  | zero => simp [chunkWords]
  | succ ns ih =>
    match bs, h with
    | b0 :: b1 :: b2 :: b3 :: rest, h =>
      simp only [List.length_cons] at h
      simp only [chunkWords, List.length_cons, ih (show 4 * ns ≤ rest.length by omega)]

theorem toNat_countWord (n : Nat) : (countWord n).toNat = min n Config.countMax := by
  unfold countWord Config.countMax
  rw [BitVec.toNat_ofNat]
  omega

/-- A parse_block that is not malformed parsed its header (42_block_framer R180). -/
theorem parseBlock_cases (job : Job) :
    (∃ c, c ≠ .none ∧ parseHeader job.bytes = .error c ∧ parseBlock job = .malformed c) ∨
      ∃ h payload, parseHeader job.bytes = .ok (h, payload) ∧
        parseBlock job = parsePayload job.mode job.policy job.bytes.length h payload := by
  unfold parseBlock
  rcases hp : parseHeader job.bytes with c | ⟨h, payload⟩
  · exact .inl ⟨c, parseHeader_error_ne_none hp, rfl, rfl⟩
  · exact .inr ⟨h, payload, rfl, rfl⟩

/-- A completion leaves alone what the framer does not own (42_block_framer R199). -/
theorem complete_frame (s : State) (job : Job) :
    (s.complete job).addrErr = s.addrErr ∧ (s.complete job).wrIgnored = s.wrIgnored ∧
      (s.complete job).f32Mode = s.f32Mode ∧ (s.complete job).lenPolicy = s.lenPolicy ∧
      (s.complete job).rawLen = s.rawLen ∧ (s.complete job).decIn = s.decIn ∧
      (s.complete job).decInfo = s.decInfo ∧ (s.complete job).decMant = s.decMant ∧
      (s.complete job).decOutLo = s.decOutLo ∧ (s.complete job).decOutHi = s.decOutHi ∧
      (s.complete job).ibuf = s.ibuf ∧ (s.complete job).script = s.script ∧
      (s.complete job).clock = s.clock ∧ (s.complete job).granted = s.granted ∧
      (s.complete job).replies = s.replies ∧ (s.complete job).draws = s.draws ∧
      (s.complete job).resets = s.resets := by
  unfold State.complete State.putOutcome
  cases parseBlock job <;> simp

@[simp] theorem complete_fsm (s : State) (job : Job) : (s.complete job).fsm = .idle := rfl

end Sys2Proof.Machine
end

