-- ==== Sys2Proof/Laws/Step.lean ====
section
/-! SUPPORT. What a step can do, said once for any arguments: which agent moved and what it did (stepWith_cases), and the one
update of the state it made (stepWith_update). -/

namespace Sys2Proof.Machine

/-- The machine's step is the step on the instance's arguments. -/
theorem step_eq (s : State) : step s = s.stepWith Config.params := rfl

/-- An IDLE unit leaves the next step to the host, whatever the schedule (70_reset_and_hazards R274). -/
theorem State.nextAgent_idle {s : State} (h : s.busy = false) (schedule : Nat → Agent) :
    s.nextAgent schedule = .host := by simp [State.nextAgent, State.contended, h]

/-- Which agent moved, and what the host's operation was (00_scope R8). -/
theorem stepWith_cases {s t : State} {p : Params} (h : s.stepWith p = .next t) :
    (s.nextAgent p.schedule = .unit ∧ t = s.advance.unitTurn) ∨
      (s.nextAgent p.schedule = .host ∧
        ((s.script = [] ∧ t = s.advance) ∨
          ∃ op rest, s.script = op :: rest ∧
            ((op = .reset ∧ t = (s.advance.setScript rest).resetEvent) ∨
              (op = .waitIdle ∧ t = (s.advance.setScript rest).pollStatus) ∨
              (∃ a size, op = .access (.read a size) ∧
                t = (s.advance.setScript rest).busRead p.ibufBytes a size) ∨
              ∃ a size v, op = .access (.write a size v) ∧
                (s.advance.setScript rest).busWrite p.ibufBytes a size v = .next t))) := by
  simp only [State.stepWith] at h
  cases ha : s.nextAgent p.schedule with
  | unit =>
    rw [ha] at h
    cases h
    exact .inl ⟨rfl, rfl⟩
  | host =>
    rw [ha] at h
    refine .inr ⟨rfl, ?_⟩
    simp only [State.hostTurn, State.advance_script] at h
    split at h
    · rename_i hs
      cases h
      exact .inl ⟨hs, rfl⟩
    · rename_i op rest hs
      refine .inr ⟨op, rest, hs, ?_⟩
      match op with
      | .reset => cases h; exact .inl ⟨rfl, rfl⟩
      | .waitIdle => cases h; exact .inr (.inl ⟨rfl, rfl⟩)
      | .access (.read a size) => cases h; exact .inr (.inr (.inl ⟨a, size, rfl, rfl⟩))
      | .access (.write a size v) => exact .inr (.inr (.inr ⟨a, size, v, rfl, h⟩))

/-- The one update a step makes, beside moving the script and the place in the schedule on. -/
theorem stepWith_update {s t : State} {p : Params} (h : s.stepWith p = .next t) :
    ∃ (ops : List HostOp) (u : State), u = s.advance.setScript ops ∧
      (t = u ∨ (∃ job, s.fsm = .parsing job ∧ t = u.complete job) ∨ t = u.resetEvent ∨ (∃ v, t = u.reply v) ∨
        t = u.setAddrErr.reply 0#32 ∨ (s.busy = true ∧ t = u.replyDraw) ∨ t = u.setAddrErr ∨
        (s.busy = true ∧ t = u.ignoreWrite) ∨ (∃ v, t = u.writeStatus v) ∨ (∃ v, t = u.setDecIn v) ∨
        (s.busy = false ∧
          ((∃ v, t = u.writeCfg v) ∨ (∃ v, t = u.setRawLen v) ∨
            (∃ a k v, locate p.ibufBytes a = some (.ibufWord k) ∧ t = u.putIbufWord k v) ∨
            t = u.doDecode ∨ t = u.acceptParse p.ibufBytes ∨ t = u.raise .illegalCmd .none))) := by
  rcases stepWith_cases h with ⟨_, rfl⟩ | ⟨_, ⟨_, rfl⟩ | ⟨op, rest, _, h⟩⟩
  · refine ⟨s.script, _, rfl, ?_⟩
    unfold State.unitTurn
    split
    · exact .inl rfl
    · rename_i job hj
      exact .inr (.inl ⟨job, hj, rfl⟩)
  · exact ⟨s.script, _, rfl, .inl rfl⟩
  · rcases h with ⟨_, rfl⟩ | ⟨_, rfl⟩ | ⟨a, size, _, rfl⟩ | ⟨a, size, v, _, h⟩
    · exact ⟨rest, _, rfl, .inr (.inr (.inl rfl))⟩
    · unfold State.pollStatus
      split
      · exact ⟨.waitIdle :: rest, _, rfl, .inr (.inr (.inr (.inl ⟨_, rfl⟩)))⟩
      · exact ⟨rest, _, rfl, .inr (.inr (.inr (.inl ⟨_, rfl⟩)))⟩
    · refine ⟨rest, _, rfl, ?_⟩
      rcases State.busRead_cases _ _ a size with h | ⟨v, h⟩ | ⟨hb, h⟩
      · exact .inr (.inr (.inr (.inr (.inl h))))
      · exact .inr (.inr (.inr (.inl ⟨v, h⟩)))
      · exact .inr (.inr (.inr (.inr (.inr (.inl ⟨hb, h⟩)))))
    · refine ⟨rest, _, rfl, ?_⟩
      have hw := State.busWrite_cases (s.advance.setScript rest) p.ibufBytes a size v
      rw [h] at hw
      simp only [Host.Outcome.next.injEq] at hw
      rcases hw with rfl | ⟨hb, rfl⟩ | ⟨_, _, rfl⟩ | ⟨_, _, rfl⟩ | ⟨hb, _, ⟨_, rfl⟩ | ⟨_, rfl⟩ | ⟨k, hk, rfl⟩ | ⟨_, hc⟩⟩
      · simp
      · exact .inr (.inr (.inr (.inr (.inr (.inr (.inr (.inl ⟨hb, rfl⟩)))))))
      · exact .inr (.inr (.inr (.inr (.inr (.inr (.inr (.inr (.inl ⟨v, rfl⟩))))))))
      · exact .inr (.inr (.inr (.inr (.inr (.inr (.inr (.inr (.inr (.inl ⟨v, rfl⟩)))))))))
      · exact .inr (.inr (.inr (.inr (.inr (.inr (.inr (.inr (.inr (.inr ⟨hb, .inl ⟨v, rfl⟩⟩)))))))))
      · exact .inr (.inr (.inr (.inr (.inr (.inr (.inr (.inr (.inr (.inr ⟨hb, .inr (.inl ⟨v, rfl⟩)⟩)))))))))
      · exact .inr (.inr (.inr (.inr (.inr (.inr (.inr (.inr (.inr (.inr
          ⟨hb, .inr (.inr (.inl ⟨a, k, v, hk, rfl⟩))⟩)))))))))
      · have hv := State.writeCmd_cases (s.advance.setScript rest) p.ibufBytes v
        rw [← hc] at hv
        simp only [Host.Outcome.next.injEq] at hv
        rcases hv with ⟨hb', _⟩ | ⟨_, rfl | ⟨_, rfl⟩ | ⟨_, rfl⟩ | rfl⟩
        · rw [hb] at hb'; cases hb'
        · exact .inl rfl
        · exact .inr (.inr (.inr (.inr (.inr (.inr (.inr (.inr (.inr (.inr ⟨hb, by simp⟩)))))))))
        · exact .inr (.inr (.inr (.inr (.inr (.inr (.inr (.inr (.inr (.inr ⟨hb, by simp⟩)))))))))
        · exact .inr (.inr (.inr (.inr (.inr (.inr (.inr (.inr (.inr (.inr ⟨hb, by simp⟩)))))))))

end Sys2Proof.Machine
end

