-- ==== Sys2Proof/Laws/Safety.lean ====
section
/-! SUPPORT. Each part of the invariant as a proposition, so that a proof about Inv unfolds none of the Boolean checks. -/

namespace Sys2Proof.Machine

theorem State.memoryLegal_iff {s : State} {n : Nat} :
    s.memoryLegal n = true ↔ Memory.wf n s.ibuf = true ∧ Memory.wf (Config.obufSamples n) s.obuf = true := by
  simp [State.memoryLegal]

theorem State.causeLegal_iff {s : State} :
    s.causeLegal = true ↔ (s.err = .malformedHeader ↔ s.hdrCause ≠ .none) := by
  unfold State.causeLegal
  generalize s.err = e
  generalize s.hdrCause = c
  cases e <;> cases c <;> decide

theorem State.reservedZero_iff {s : State} :
    s.reservedZero = true ↔ s.decInfo &&& 0xFE0000FC#32 = 0#32 ∧ s.decMant &&& 0xFF800000#32 = 0#32 ∧
      s.hdrForm &&& 0xFFFFFFFE#32 = 0#32 := by
  simp [State.reservedZero, and_assoc]

theorem State.countsLegal_iff {s : State} {n : Nat} :
    s.countsLegal n = true ↔ (s.sampleCount.toNat = s.payloadBytes.toNat / 4 ∨ s.sampleCount = 0#32) ∧
      s.sampleCount.toNat ≤ Config.obufSamples n := by
  simp only [State.countsLegal, Bool.and_eq_true, Bool.or_eq_true, beq_iff_eq, decide_eq_true_eq]

end Sys2Proof.Machine
end

