-- ==== Sys2Proof/Laws/PerInstr.lean ====
section
/-! SUPPORT. Statements about every command as syntax, one lemma per constructor of Instr. -/

namespace Sys2Proof.Laws.WordLayout

/-- The command is well formed, and its word holds its opcode in bits [7:0] and zero in MBZ (30_encoding R98). -/
def Statement (i : Instr) : Prop := i.wellFormed = true ∧ splitCmd (encode i) = i.cmdWord

theorem nop : Statement .nop := ⟨by decide, by decide⟩

theorem decode : Statement .decode := ⟨by decide, by decide⟩

theorem parse : Statement .parse := ⟨by decide, by decide⟩

end Sys2Proof.Laws.WordLayout
end

