-- ==== Sys2Proof/Tests/Slice0.lean ====
section
/-! SUPPORT. Tests: ill-formed terms refused, words decoded, a few values of 95_test_vectors, and for every statement with
hypotheses a theorem that shows values meeting them (witness_<statement>). -/

open Sys2Proof Sys2Proof.Machine

namespace Sys2Proof.Tests

/-! ### Helpers -/

/-- A list of bytes from numbers. -/
def bytes (ns : List Nat) : List Byte := ns.map (BitVec.ofNat 8)

/-- PAY10 of 95_test_vectors: 1.0 to 10.0. -/
def pay10 : List Byte :=
  bytes [0x00, 0x00, 0x80, 0x3F, 0x00, 0x00, 0x00, 0x40, 0x00, 0x00, 0x40, 0x40, 0x00, 0x00, 0x80, 0x40] ++
    bytes [0x00, 0x00, 0xA0, 0x40, 0x00, 0x00, 0xC0, 0x40, 0x00, 0x00, 0xE0, 0x40, 0x00, 0x00, 0x00, 0x41] ++
    bytes [0x00, 0x00, 0x10, 0x41, 0x00, 0x00, 0x20, 0x41]

/-- Right after reset. The helpers below take the smallest legal IBUF_BYTES, 16. -/
def small : State := State.reset

/-- The arguments of the smallest unit, with a schedule that lets the unit move whenever it can. -/
def unitFirst : Params := ⟨16, fun _ => .unit⟩

/-- The arguments of the smallest unit, with a schedule that lets the host make one access first. -/
def hostFirst : Params := ⟨16, fun k => if k = 0 then .host else .unit⟩

/-- `#0`, written to IBUF. -/
def hash0 : List Host.Cell := [(0, 0x23#8), (1, 0x30#8)]

/-- The job of a PARSE of `#0`. -/
def job0 : Job := ⟨bytes [0x23, 0x30], .manual, .lenient⟩

/-- A unit with `#0` in IBUF and RAW_LEN = 2, ready for PARSE. -/
def ready : State := { small with ibuf := hash0, rawLen := 2#32 }

/-- A PARSE of `#0` in progress, which the unit completes next under unitFirst. -/
def busy0 : State := { ready with fsm := .parsing job0 }

/-- The host about to do one operation, granted before any unit step. -/
def hostNext (s : State) (op : HostOp) : State := { s with script := [op], granted := true }

/-- One access on a state. -/
def after (s : State) (a : Access) : Option State :=
  match s.access 16 a with
  | .next t => some t
  | _ => none

/-- One step under unitFirst. -/
def stepped (s : State) : Option State :=
  match s.stepWith unitFirst with
  | .next t => some t
  | _ => none

/-! ### Ill-formed terms (WellFormed) -/

theorem test_wf_mbz : (⟨0x01#8, 1#24⟩ : CmdWord).wellFormed = false := by decide

theorem test_wf_opcode : (⟨0x03#8, 0#24⟩ : CmdWord).wellFormed = false := by decide

theorem test_wf_commands : Instr.nop.wellFormed ∧ Instr.decode.wellFormed ∧ Instr.parse.wellFormed := by decide

theorem test_wf_ibuf_offset : (Target.ibuf 6).wellFormed 16 = false ∧ (Target.ibuf 16).wellFormed 16 = false ∧
    (Target.ibuf 12).wellFormed 16 = true := by decide

theorem test_wf_obuf : (Target.obufLo 3).wellFormed 16 = false ∧ (Target.obufHi 3).wellFormed 16 = false ∧
    (Target.obufLo 2).wellFormed 16 = true := by decide

theorem test_wf_load : (ScriptLine.load (List.replicate 17 0#8)).wellFormed 16 = false ∧
    (ScriptLine.load (List.replicate 16 0#8)).wellFormed 16 = true := by decide

theorem test_wf_line_target : (ScriptLine.wr (.ibuf 2) 0#32).wellFormed 16 = false ∧
    (ScriptLine.rd (.obufHi 9)).wellFormed 16 = false := by decide

theorem test_wf_ibufBytes : ibufBytesLegal 15 = false ∧ ibufBytesLegal 12 = false ∧ ibufBytesLegal 18 = false ∧
    ibufBytesLegal 1048580 = false ∧ ibufBytesLegal 16 = true ∧ ibufBytesLegal 1048576 = true := by decide

/-! ### Words written out from 30_encoding R98 to R100 -/

theorem test_decode_nop : decode 0b00000000000000000000000000000000#32 = .ok .nop := by rfl

theorem test_decode_decode : decode 0b00000000000000000000000000000001#32 = .ok .decode := by rfl

theorem test_decode_parse : decode 0b00000000000000000000000000000010#32 = .ok .parse := by rfl

theorem test_decode_illegal : decode 0x00000003#32 = .error (.badOpcode 0x03#8) ∧
    decode 0x00000101#32 = .error (.mbzNonzero 1#24) ∧ decode 0xFFFFFFFF#32 = .error (.mbzNonzero 0xFFFFFF#24) :=
  ⟨rfl, rfl, rfl⟩

theorem test_table_words : decodeTableWord 32 0 = some .nop ∧ decodeTableWord 32 1 = some .decode ∧
    decodeTableWord 32 2 = some .parse ∧ decodeTableWord 32 3 = none ∧ decodeTableWord 8 0x102 = some .parse := by decide

/-- 95_test_vectors P2's addresses, and LOAD's zero padding (30_encoding R103). -/
theorem test_load_expands : (ScriptLine.load (bytes [0x23, 0x32, 0x34, 0x30, 0x0A])).expand =
    [.access (.write 0x100000#24 32 0x30343223#32), .access (.write 0x100004#24 32 0x0000000A#32),
      .access (.write 0x00000C#24 32 5#32)] := by decide

/-- 95_test_vectors P2: OBUF[9].HI is 0x20004C. -/
theorem test_obuf_address : (Target.obufHi 9).addr = 0x20004C#24 ∧ (Target.obufLo 9).addr = 0x200048#24 := by decide

/-! ### The decoder (95_test_vectors section 2) -/

theorem test_manual : decodeF32 .manual 0xBF800000#32 = 0xBFF0000000000000#64 ∧
    decodeF32 .manual 0x007FFFFF#32 = 0x37FFFFFFC0000000#64 ∧
    decodeF32 .manual 0x00000001#32 = 0x3690000000000000#64 ∧
    decodeF32 .manual 0x7F800000#32 = 0x47F0000000000000#64 ∧
    decodeF32 .manual 0xFFFFFFFF#32 = 0xC7FFFFFFE0000000#64 ∧
    decodeF32 .manual 0x40490FDB#32 = 0x400921FB60000000#64 := by decide +kernel

theorem test_native : decodeF32 .native 0x80000001#32 = 0xB6A0000000000000#64 ∧
    decodeF32 .native 0x00400000#32 = 0x3800000000000000#64 ∧
    decodeF32 .native 0x007FFFFF#32 = 0x380FFFFFC0000000#64 ∧
    decodeF32 .native 0xFF800000#32 = 0xFFF0000000000000#64 ∧
    decodeF32 .native 0x7F7FFFFF#32 = 0x47EFFFFFE0000000#64 := by decide +kernel

theorem test_decInfo : decInfoWord 0x00800000#32 = 0x01820102#32 ∧ decInfoWord 0x3F000000#32 = 0x01FF7E02#32 ∧
    decInfoWord 0xFF800000#32 = 0x0080FF03#32 ∧ decInfoWord 0x80000000#32 = 0x01810001#32 := by decide

/-! ### The framer (95_test_vectors section 3) -/

/-- F5, F6, F7, F10. -/
theorem test_paren_errors : parseHeader (bytes [0x23, 0x28]) = .error .noCloseParen ∧
    parseHeader (bytes [0x23, 0x28, 0x29, 0x34, 0x30]) = .error .badDigit ∧
    parseHeader (bytes [0x23, 0x28, 0x32]) = .error .noCloseParen ∧
    parseHeader (bytes [0x23, 0x28, 0x2B, 0x32, 0x29, 0x34, 0x30]) = .error .badDigit := ⟨rfl, rfl, rfl, rfl⟩

/-- F3, F4, F12, F16, F17. -/
theorem test_other_errors : parseHeader (bytes [0x23]) = .error .truncated ∧
    parseHeader (bytes [0x23, 0x41, 0x00]) = .error .badDigit ∧
    parseHeader (bytes [0x23, 0x32, 0x34]) = .error .truncated ∧
    parseHeader (bytes [0x23, 0x32, 0x20, 0x34]) = .error .badDigit ∧
    (parseBlock ⟨bytes [0x23, 0x28, 0x39, 0x39, 0x39, 0x39, 0x39, 0x39, 0x39, 0x39, 0x39, 0x39, 0x39, 0x29, 0x31],
      .manual, .strict⟩) = .malformed .truncated := ⟨rfl, rfl, rfl, rfl, by decide +kernel⟩

/-- F22: `#(2)40` with ten samples, under STRICT. -/
theorem test_ten_samples : parseBlock ⟨bytes [0x23, 0x28, 0x32, 0x29, 0x34, 0x30] ++ pay10 ++ bytes [0x0A], .manual, .strict⟩ =
    .success ⟨.paren, 2, 40, 6⟩ 40 [0x3FF0000000000000#64, 0x4000000000000000#64, 0x4008000000000000#64,
      0x4010000000000000#64, 0x4014000000000000#64, 0x4018000000000000#64, 0x401C000000000000#64,
      0x4020000000000000#64, 0x4022000000000000#64, 0x4024000000000000#64] := by decide +kernel

/-- F27: the terminator omitted. -/
theorem test_nine_samples : parseBlock ⟨bytes [0x23, 0x32, 0x34, 0x30] ++ pay10, .manual, .lenient⟩ =
      .tooShort ⟨.plain, 2, 40, 4⟩ 39 [0x3FF0000000000000#64, 0x4000000000000000#64, 0x4008000000000000#64,
        0x4010000000000000#64, 0x4014000000000000#64, 0x4018000000000000#64, 0x401C000000000000#64,
        0x4020000000000000#64, 0x4022000000000000#64] ∧
    parseBlock ⟨bytes [0x23, 0x32, 0x34, 0x30] ++ pay10, .manual, .strict⟩ =
      .lengthMismatch ⟨.plain, 2, 40, 4⟩ 39 := by decide +kernel

/-- F30 and F18. -/
theorem test_no_payload : parseBlock ⟨bytes [0x23, 0x31, 0x35], .manual, .strict⟩ = .lengthMismatch ⟨.plain, 1, 5, 3⟩ 0 ∧
    parseBlock ⟨bytes [0x23, 0x30], .manual, .strict⟩ = .tooShort ⟨.plain, 0, 0, 2⟩ 0 [] := by decide

/-! ### The commands, one step each -/

/-- C1, C5. -/
theorem test_nop_idle : stepped ({ small with err := .illegalCmd }.withFetchWord 32 0) =
    some { small with err := .illegalCmd } := by decide

theorem test_nop_busy : (stepped (busy0.withFetchWord 32 0)).map State.statusWord = some 0x00020001#32 := by decide

/-- 95_test_vectors P1, first DECODE. -/
theorem test_decode_step : stepped ({ small with decIn := 0xBF800000#32 }.withFetchWord 32 1) =
    some { small with decIn := 0xBF800000#32, decInfo := 0x00007F03#32, decOutHi := 0xBFF00000#32 } := by
  decide +kernel

theorem test_decode_busy : (stepped (busy0.withFetchWord 32 1)).map (fun t => (t.wrIgnored, t.decInfo, t.err)) =
    some (true, 0#32, .none) := by decide

theorem test_parse_accepted : stepped (ready.withFetchWord 32 2) = some busy0 := by decide

/-- F31. -/
theorem test_parse_out_of_range : stepped ({ small with rawLen := 17#32 }.withFetchWord 32 2) =
    some { small with rawLen := 17#32, err := .lenRange } := by decide

/-- State.reset runs each command as its first step, in the instance too. -/
theorem test_reset_runs : step (State.reset.withFetchWord 32 0) = .next State.reset ∧
    step (State.reset.withFetchWord 32 1) = .next { State.reset with decInfo := 0x01810000#32 } ∧
    step (State.reset.withFetchWord 32 2) = .next { State.reset with fsm := .parsing ⟨[], .manual, .lenient⟩ } :=
  ⟨rfl, rfl, rfl⟩

/-- F18: the completion of a PARSE of `#0`. -/
theorem test_completion : stepped busy0 = some { ready with err := .payloadTooShort, payloadOff := 2#32, clock := 1 } := by
  decide

/-! ### The bus (95_test_vectors section 4) -/

/-- C2, C3, C4. -/
theorem test_illegal : (after small (.write 0x000000#24 32 0x00000003#32)).map State.statusWord = some 0x50#32 ∧
    after small (.write 0x000000#24 32 0x00000101#32) = some { small with err := .illegalCmd } ∧
    after small (.write 0x000000#24 32 0xFFFFFFFF#32) = some { small with err := .illegalCmd } := by decide

/-- C9 to C14. -/
theorem test_not_admitted : after small (.read 0x000040#24 32) = some { small with addrErr := true, replies := [0#32] } ∧
    after small (.write 0x000014#24 32 1#32) = some { small with addrErr := true } ∧
    after small (.write 0x200000#24 32 1#32) = some { small with addrErr := true } ∧
    after small (.write 0x100000#24 8 1#32) = some { small with addrErr := true } ∧
    after small (.write 0x000006#24 32 0#32) = some { small with addrErr := true } ∧
    State.reset.access 4096 (.read 0x101000#24 32) = .next { State.reset with addrErr := true, replies := [0#32] } := by
  refine ⟨?_, ?_, ?_, ?_, ?_, rfl⟩ <;> decide

/-- C16, C17. -/
theorem test_clear_flags :
    (after { small with err := .illegalCmd, addrErr := true, wrIgnored := true }
      (.write 0x000004#24 32 0x00010000#32)).map State.statusWord = some 0x00020050#32 ∧
    (after { small with err := .illegalCmd, addrErr := true, wrIgnored := true }
      (.write 0x000004#24 32 0xFFFFFFFF#32)).map State.statusWord = some 0x00000050#32 := by decide

/-- C15, C18, C19. -/
theorem test_registers : (after small (.write 0x000008#24 32 0xFFFFFFFF#32)).map State.cfgWord = some 3#32 ∧
    State.reset.access 4096 (.read 0x00003C#24 32) = .next { State.reset with replies := [0x1000#32] } ∧
    after State.reset (.read 0x000014#24 32) = some { State.reset with replies := [0#32] } :=
  ⟨by decide, rfl, by decide⟩

/-- P2's first write, and C6, C7. -/
theorem test_ibuf_write : (after small (.write 0x100000#24 32 0x30343223#32)).map State.ibuf =
      some [(0, 0x23#8), (1, 0x32#8), (2, 0x34#8), (3, 0x30#8)] ∧
    after busy0 (.write 0x100000#24 32 0#32) = some { busy0 with wrIgnored := true } ∧
    after busy0 (.write 0x000010#24 32 7#32) = some { busy0 with decIn := 7#32 } := by decide

/-! ### Witnesses: encoding and dispatch -/

theorem witness_OpcodeMapIsTotal : (0x00000003#32 ≠ 0#32 ∧ 0x00000003#32 ≠ 1#32 ∧ 0x00000003#32 ≠ 2#32) ∧
    (0xFFFFFFFF#32 ≠ 0#32 ∧ 0xFFFFFFFF#32 ≠ 1#32 ∧ 0xFFFFFFFF#32 ≠ 2#32) := by decide

theorem witness_StepRunsDecodedCommand :
    (hostNext small (.access (.write 0x000000#24 32 2#32))).nextAgent Config.schedule = .host ∧
      (hostNext busy0 (.access (.write 0x000000#24 32 2#32))).nextAgent unitFirst.schedule = .host ∧
      (hostNext small (.access (.write 0x000000#24 32 2#32))).script = .access (.write 0x000000#24 32 2#32) :: [] ∧
      decode 2#32 = .ok .parse := ⟨rfl, rfl, rfl, rfl⟩

theorem witness_FetchWordRunsNext : decodeTableWord 32 0 = some .nop ∧ decodeTableWord 32 2 = some .parse := by decide

/-! ### Witnesses: the commands -/

theorem witness_NopCompletes : small.busy = false ∧ busy0.busy = true := by decide

theorem witness_DecodeCompletes : small.busy = false ∧ busy0.busy = true := by decide

theorem witness_ParseIsAccepted : { small with rawLen := 16#32 }.busy = false ∧
    { small with rawLen := 16#32 }.rawLen.toNat ≤ 16 := by decide

/-- RAW_LEN = 16 fits the instance, whichever its size. -/
theorem witness_ParseIsAccepted_instance : { small with rawLen := 16#32 }.rawLen.toNat ≤ Config.ibufBytes :=
  (ibufBytesLegal_iff.mp Config.ibufBytes_legal).2.1

theorem witness_ParseOutOfRange : { small with rawLen := 17#32 }.busy = false ∧
    16 < { small with rawLen := 17#32 }.rawLen.toNat := by decide

/-- RAW_LEN = 2^20 + 1 is out of range in the instance, whichever its size. -/
theorem witness_ParseOutOfRange_instance : Config.ibufBytes < { small with rawLen := 1048577#32 }.rawLen.toNat :=
  Nat.lt_succ_of_le (ibufBytesLegal_iff.mp Config.ibufBytes_legal).2.2

theorem witness_ImmediateCommandsHaveNoBusyPhase : { small with rawLen := 17#32 }.busy = false ∧
    (3#32 ≠ 0#32 ∧ 3#32 ≠ 1#32 ∧ 3#32 ≠ 2#32) ∧
    16 < { small with rawLen := 17#32 }.rawLen.toNat := by decide

theorem witness_CommandFrames : exec .nop small = .next small ∧ small.busy = false ∧ busy0.busy = true ∧
    exec .decode busy0 = .next { busy0 with wrIgnored := true } ∧ execOf 16 .parse ready = .next busy0 :=
  ⟨rfl, rfl, rfl, rfl, rfl⟩

theorem witness_BusyWritesAreDiscarded : busy0.busy = true ∧
    (0x100000#24).toNat % 4 = 0 ∧ (0x10000C#24).toNat % 4 = 0 ∧ 0x100000 ≤ (0x100000#24).toNat ∧
    (0x10000C#24).toNat < 0x100000 + 16 ∧ (0x10000C#24).toNat < 0x200000 := by decide

theorem witness_BusyAccessesWithNormalEffect : busy0.busy = true ∧ (4 * 0 < 16 ∧ 4 * 3 < 16) ∧
    4 * 3 < 0x100000 ∧ ((0x24#24).toNat % 4 = 0 ∧ 0x24 ≤ (0x24#24).toNat) ∧
    ((0x38#24).toNat % 4 = 0 ∧ (0x38#24).toNat ≤ 0x38) ∧
    ((0x200000#24).toNat % 4 = 0 ∧ 0x200000 ≤ (0x200000#24).toNat) ∧
    ((0x200014#24).toNat % 4 = 0 ∧ (0x200014#24).toNat < 0x200000 + 8 * (16 / 4 - 1)) := by decide

/-! ### Witnesses: the framer -/

theorem witness_CompletionResults : busy0.fsm = .parsing job0 ∧ busy0.nextAgent unitFirst.schedule = .unit := by decide

/-- Each outcome of the statement is some job's: NO_MARKER, LENGTH_MISMATCH and PAYLOAD_TOO_SHORT here, success in
test_ten_samples. -/
theorem witness_CompletionResults_outcomes : parseBlock ⟨[], .manual, .lenient⟩ = .malformed .noMarker ∧
    parseBlock ⟨bytes [0x23, 0x31, 0x35], .manual, .strict⟩ = .lengthMismatch ⟨.plain, 1, 5, 3⟩ 0 ∧
    parseBlock job0 = .tooShort ⟨.plain, 0, 0, 2⟩ 0 [] := by decide

theorem witness_CompletionFrame : busy0.fsm = .parsing job0 ∧ busy0.nextAgent unitFirst.schedule = .unit ∧
    busy0.stepWith unitFirst = .next { ready with err := .payloadTooShort, payloadOff := 2#32, clock := 1 } := ⟨rfl, rfl, rfl⟩

theorem witness_ParseIsFunctionOfJob : busy0.fsm = .parsing job0 ∧ { busy0 with decIn := 5#32 }.fsm = .parsing job0 ∧
    busy0.nextAgent unitFirst.schedule = .unit ∧ { busy0 with decIn := 5#32 }.nextAgent unitFirst.schedule = .unit ∧
    busy0.stepWith unitFirst = .next (busy0.advance.complete job0) ∧
    { busy0 with decIn := 5#32 }.stepWith unitFirst = .next ({ busy0 with decIn := 5#32 }.advance.complete job0) :=
  ⟨rfl, rfl, rfl, rfl, rfl, rfl⟩

theorem witness_BytesPastRawLenIgnored : ready.busy = false ∧
    { ready with ibuf := hash0 ++ [(2, 0xFF#8)] }.busy = false ∧
    { ready with ibuf := hash0 ++ [(2, 0xFF#8)] }.rawLen = ready.rawLen ∧
    { ready with ibuf := hash0 ++ [(2, 0xFF#8)] }.f32Mode = ready.f32Mode ∧
    { ready with ibuf := hash0 ++ [(2, 0xFF#8)] }.lenPolicy = ready.lenPolicy ∧
    ready.rawLen.toNat ≤ 16 ∧
    ∀ i < ready.rawLen.toNat, ibufByte ready i = ibufByte { ready with ibuf := hash0 ++ [(2, 0xFF#8)] } i := by
  decide

/-- The last bytes before the digits and the first after them are not digits; '0' and '9' are, and a header with each
parses. -/
theorem witness_PlainCountPart : (0x2F#8 ≠ 0x28#8 ∧ ¬(0x30 ≤ (0x2F#8).toNat ∧ (0x2F#8).toNat ≤ 0x39)) ∧
    (0x3A#8 ≠ 0x28#8 ∧ ¬(0x30 ≤ (0x3A#8).toNat ∧ (0x3A#8).toNat ≤ 0x39)) ∧
    parseHeader (bytes [0x23, 0x30]) = .ok (⟨.plain, 0, 0, 2⟩, []) ∧
    parseHeader (bytes [0x23, 0x39, 0x30, 0x30, 0x30, 0x30, 0x30, 0x30, 0x30, 0x34, 0x30]) =
      .ok (⟨.plain, 9, 40, 11⟩, []) := ⟨by decide, by decide, rfl, rfl⟩

theorem witness_ParenCountPart : (∀ c ∈ bytes [0x30, 0x32], isDigit c = true) ∧ bytes [0x30, 0x32] ≠ [] ∧
    parseHeader (0x23#8 :: 0x28#8 :: bytes [0x30, 0x32] ++ 0x29#8 :: bytes [0x34, 0x30]) = .ok (⟨.paren, 2, 40, 7⟩, []) ∧
    isDigit 0x2F#8 = false ∧ isDigit 0x3A#8 = false ∧ (0x3A#8 : Byte) ≠ 0x29#8 := by
  exact ⟨by decide, by decide, rfl, by decide, by decide, by decide⟩

theorem witness_LengthPart : CountPart .plain 2 (bytes [0x32]) ∧
    CountPart .paren 2 (0x28#8 :: bytes [0x30, 0x32] ++ [0x29#8]) ∧ allDigits (bytes [0x34, 0x30]) ∧
    (bytes [0x34, 0x30]).length = 2 ∧ (bytes [0x34]).length < 2 ∧ allDigits (bytes [0x34]) ∧ isDigit 0x61#8 = false := by
  refine ⟨⟨0x32#8, rfl, rfl, rfl⟩, ⟨bytes [0x30, 0x32], rfl, by decide, ?_, rfl⟩, ?_, rfl, by decide, ?_, rfl⟩
  all_goals simp [allDigits, bytes, isDigit]

/-- `#15` then LF: the grammar's pieces. -/
theorem witness_HeaderMatchesGrammar :
    Framed (bytes [0x23, 0x31, 0x35, 0x0A]) ⟨.plain, 1, 5, 3⟩ (bytes [0x0A]) := by
  refine ⟨bytes [0x31], bytes [0x35], rfl, ⟨0x31#8, rfl, rfl, rfl⟩, rfl, ?_, rfl, rfl⟩
  simp [allDigits, bytes, isDigit]

theorem witness_PayloadOffset : parseHeader (bytes [0x23, 0x31, 0x35, 0x0A]) = .ok (⟨.plain, 1, 5, 3⟩, bytes [0x0A]) ∧
    parseHeader (bytes [0x23, 0x28, 0x30, 0x29, 0x0A]) = .ok (⟨.paren, 0, 0, 4⟩, bytes [0x0A]) := ⟨rfl, rfl⟩

/-- The first clause's hypothesis, then the second's in each of its branches: STRICT with another length, 9 chunks, 10
chunks (45 bytes with a header of 4). -/
theorem witness_OutcomeOrder : parseHeader (bytes []) = .error .noMarker ∧
    (parseHeader (bytes [0x23, 0x31, 0x35]) = .ok (⟨.plain, 1, 5, 3⟩, []) ∧ (5 : Nat) ≠ 3 - 1 - 3) ∧
    (∃ h p, parseHeader (bytes [0x23, 0x32, 0x34, 0x30] ++ pay10) = .ok (h, p) ∧ h.offset = 4) ∧
    ((44 - 1 - 4) / 4 < 10 ∧ ¬((45 - 1 - 4) / 4 < 10)) :=
  ⟨rfl, ⟨rfl, by decide⟩, ⟨⟨.plain, 2, 40, 4⟩, pay10, rfl, rfl⟩, by decide⟩

theorem witness_SamplesAreChunks : parseBlock job0 = .tooShort ⟨.plain, 0, 0, 2⟩ 0 [] ∧
    parseBlock ⟨bytes [0x23, 0x30, 0x00, 0x00, 0x80, 0x3F, 0x0A], .manual, .lenient⟩ =
      .tooShort ⟨.plain, 0, 0, 2⟩ 4 [0x3FF0000000000000#64] := by decide +kernel

theorem witness_ObufNeverOverflows : ibufBytesLegal 16 = true ∧ ibufBytesLegal 1048576 = true ∧
    job0.bytes.length ≤ 16 ∧ parseBlock job0 = .tooShort ⟨.plain, 0, 0, 2⟩ 0 [] := by decide

theorem witness_FormsAgree : isDigit 0x32#8 = true ∧ bytes [0x30, 0x32] ≠ [] ∧ allDigits (bytes [0x30, 0x32]) ∧
    numeral (bytes [0x30, 0x32]) = digitVal 0x32#8 := by
  refine ⟨by decide, by decide, ?_, by decide⟩
  simp [allDigits, bytes, isDigit]

theorem witness_TrailingByteIsDropped : parseHeader (bytes [0x23, 0x30]) = .ok (⟨.plain, 0, 0, 2⟩, []) := by rfl

/-! ### Witnesses: the decoder -/

theorem witness_ManualValueIsExact : f32Exp 0x00800000#32 ≠ 0#8 ∧ f32Exp 0x007FFFFF#32 = 0#8 := by decide

/-- p = 0, p = 22, E = 1 and E = 255. -/
theorem witness_ManualBitPatterns : (f32Exp 0x80000000#32 = 0#8 ∧ f32Mant 0x80000000#32 = 0#23) ∧
    (f32Exp 1#32 = 0#8 ∧ (f32Mant 1#32).getLsbD 0 = true ∧ ∀ q < 23, 0 < q → (f32Mant 1#32).getLsbD q = false) ∧
    (f32Exp 0x00400000#32 = 0#8 ∧ (f32Mant 0x00400000#32).getLsbD 22 = true) ∧
    f32Exp 0x00800000#32 ≠ 0#8 ∧ f32Exp 0xFFFFFFFF#32 ≠ 0#8 := by decide

/-- No bit of a mantissa lies above bit 22, so the highest set bit of the two words above is as said. -/
theorem witness_ManualBitPatterns_top : ∀ q, 22 < q → (f32Mant 0x00400000#32).getLsbD q = false ∧
    (f32Mant 1#32).getLsbD q = false :=
  fun q h => ⟨BitVec.getLsbD_of_ge _ _ (by omega), BitVec.getLsbD_of_ge _ _ (by omega)⟩

theorem witness_NativeBitPatterns : (f32Exp 0#32 = 0#8 ∧ f32Mant 0#32 = 0#23) ∧
    (f32Exp 0x00800000#32 ≠ 0#8 ∧ f32Exp 0x7F7FFFFF#32 ≠ 255#8 ∧ f32Exp 0x7F7FFFFF#32 ≠ 0#8) ∧
    (f32Exp 0x7F800000#32 = 255#8 ∧ f32Mant 0x7F800000#32 = 0#23) ∧
    (f32Exp 0x7F800001#32 = 255#8 ∧ f32Mant 0x7F800001#32 ≠ 0#23) := by decide

theorem witness_NativeValueIsExact : f32Exp 0x00000001#32 ≠ 255#8 ∧ f32Exp 0x7F7FFFFF#32 ≠ 255#8 := by decide

theorem witness_ManualSpecialClasses : (f32Exp 0x007FFFFF#32 = 0#8 ∧ f32Mant 0x007FFFFF#32 ≠ 0#23) ∧
    (f32Exp 0xFF800000#32 = 255#8 ∧ f32Mant 0xFF800000#32 = 0#23) ∧
    (f32Exp 0x7F800001#32 = 255#8 ∧ f32Mant 0x7F800001#32 ≠ 0#23) := by decide

/-! ### Witnesses: the bus -/

/-- Each way of not being admitted, at the ends of its range in a unit with 16 bytes of IBUF. -/
theorem witness_AccessNotAdmitted : (8 : Nat) ≠ 32 ∧ (0x000006#24).toNat % 4 ≠ 0 ∧
    (0x40 ≤ (0x000040#24).toNat ∧ (0x0FFFFC#24).toNat < 0x100000) ∧
    (0x100000 + 16 ≤ (0x100010#24).toNat ∧ (0x1FFFFC#24).toNat < 0x200000) ∧
    0x200000 + 8 * (16 / 4 - 1) ≤ (0x200018#24).toNat ∧
    (0x14 ≤ (0x000014#24).toNat ∧ (0x00003C#24).toNat < 0x40) ∧
    (0x200014#24).toNat < 0x200000 + 8 * (16 / 4 - 1) ∧ busy0.busy = true := by decide

theorem witness_AccessNotAdmitted_status :
    after { small with addrErr := true } (.write 0x000004#24 32 0#32) = some { small with addrErr := true } ∧
      after busy0 (.write 0x000008#24 32 1#32) = some { busy0 with wrIgnored := true } := by decide

theorem witness_RegisterReads : small.busy = false := by decide

theorem witness_IbufWindow : ibufBytesLegal 16 = true ∧ 4 * 0 < 16 ∧ 4 * 3 < 16 ∧ busy0.busy = true ∧
    small.busy = false ∧ ibufBytesLegal 1048576 = true ∧ 4 * 262143 < 1048576 := by decide

theorem witness_ObufWindow : small.busy = false ∧ ibufBytesLegal 16 = true ∧
    0 < 16 / 4 - 1 ∧ 2 < 16 / 4 - 1 := by decide

theorem witness_ConfigurationWrites : small.busy = false ∧ busy0.busy = true := by decide

/-- A read of an admitted place, and a repeated write of STATUS. -/
theorem witness_AccessesAreIdempotent : locate 16 0x00003C#24 ≠ none ∧
    ¬((32 : Nat) = 32 ∧ 0x000004#24 = 0x000000#24) ∧
    after { small with addrErr := true } (.write 0x000004#24 32 0x10000#32) = some small := by decide

/-! ### Witnesses: the whole machine -/

theorem small_inv : small.Inv 16 := ⟨by decide, by decide, trivial, by decide, by decide⟩

theorem busy0_inv {n : Nat} (hn : 2 ≤ n) : busy0.Inv n := by
  refine ⟨?_, by decide, ⟨show job0 = captureJob busy0 by decide, hn⟩, by decide, ?_⟩
  · simp [State.memoryLegal_iff, Memory.wf, busy0, ready, hash0, small, State.reset, Memory.risingFrom]
    omega
  · rw [State.countsLegal_iff]
    exact ⟨.inr rfl, Nat.zero_le _⟩

/-- The invariant, in the smallest unit and in the instance, at a state with a PARSE in progress; and a step from each. -/
theorem witness_StepKeepsInvariant : busy0.Inv 16 ∧ unitFirst.legal = true ∧
    busy0.stepWith unitFirst = .next (busy0.advance.complete job0) ∧ busy0.Inv Config.ibufBytes ∧
    step { busy0 with granted := true } = .next busy0 :=
  ⟨busy0_inv (by decide), rfl, rfl, busy0_inv (by have := (ibufBytesLegal_iff.mp Config.ibufBytes_legal).2.1; omega), rfl⟩

theorem witness_StepKeepsJobFixed : busy0.jobFixed 16 ∧ busy0.stepWith unitFirst = .next (busy0.advance.complete job0) ∧
    { busy0 with granted := true }.jobFixed Config.ibufBytes ∧ step { busy0 with granted := true } = .next busy0 :=
  ⟨(busy0_inv (by decide)).2.2.1, rfl,
    (busy0_inv (by have := (ibufBytesLegal_iff.mp Config.ibufBytes_legal).2.1; omega)).2.2.1, rfl⟩

theorem witness_ResetEvent : (hostNext busy0 .reset).nextAgent unitFirst.schedule = .host ∧ (hostNext busy0 .reset).script = .reset :: [] :=
  ⟨rfl, rfl⟩

/-- A DECODE, and a reset. -/
theorem witness_DecodeResultsChangeOnlyByDecode :
    { hostNext small (cmdWrite 1#32) with decIn := 0x3F800000#32 }.stepWith unitFirst =
      exec .decode { small with decIn := 0x3F800000#32 } ∧
    (hostNext { small with decInfo := 1#32 } .reset).stepWith unitFirst = .next { small with resets := 1 } := ⟨rfl, rfl⟩

theorem witness_ResultsHeldWhileBusy : (hostNext busy0 .waitIdle).busy = true ∧
    stepped (hostNext busy0 .waitIdle) = some { busy0 with script := [.waitIdle], replies := [1#32] } ∧
    { busy0 with script := [.waitIdle], replies := [1#32] }.busy = true := by decide

/-- BUSY rises at a PARSE, and falls at its completion and at reset. -/
theorem witness_BusyRisesAndFalls : (ready.busy = false ∧ stepped (hostNext ready (cmdWrite 2#32)) = some busy0 ∧
      busy0.busy = true) ∧
    ((stepped busy0).map State.busy = some false ∧ (stepped (hostNext busy0 .reset)).map State.busy = some false) := by
  decide

/-- A fair schedule, and a choice of the unit's at the first place and after one of the host's. -/
theorem witness_ParseEnds : busy0.busy = true ∧ Fair unitFirst.schedule ∧
    (busy0.clock ≤ 0 ∧ unitFirst.schedule 0 = .unit) ∧ (busy0.clock ≤ 1 ∧ hostFirst.schedule 1 = .unit) :=
  ⟨rfl, fun k => ⟨k, Nat.le_refl k, rfl⟩, ⟨Nat.le_refl 0, rfl⟩, ⟨Nat.zero_le 1, rfl⟩⟩

theorem witness_IbufWrittenOnlyByHost :
    (stepped (hostNext ready (.access (.write 0x100000#24 32 0x00003158#32)))).map
      (fun t => (ibufByte t 0, ibufByte ready 0)) = some (0x58#8, 0x23#8) := by decide

/-- Both flags fall at CLRFLAGS. -/
theorem witness_StickyFlagsFall :
    stepped (hostNext { small with addrErr := true, wrIgnored := true } (.access (.write 0x000004#24 32 0x00030000#32))) =
      some small := by decide

theorem witness_WaitIdlePolls : (hostNext busy0 .waitIdle).nextAgent unitFirst.schedule = .host ∧
    (hostNext busy0 .waitIdle).script = .waitIdle :: [] := ⟨rfl, rfl⟩

/-- LOAD of a whole IBUF, and of nothing. -/
theorem witness_LoadFillsBuffer :
    { small with script := (ScriptLine.load (List.replicate 16 0x30#8)).expand ++ [HostOp.reset] }.busy = false ∧
      unitFirst.legal = true ∧ (List.replicate 16 (0x30#8 : Byte)).length ≤ unitFirst.ibufBytes ∧
      (ScriptLine.load []).expand = [.access (.write 0x00000C#24 32 0#32)] := by decide

theorem witness_RacingWrite : busy0.fsm = .parsing job0 ∧
    { busy0 with script := [.access (.write 0x100000#24 32 0#32)] }.script = [.access (.write 0x100000#24 32 0#32)] ∧
    locate 16 0x100000#24 = some (.ibufWord 0) ∧ locate 16 0x10000C#24 = some (.ibufWord 3) ∧
    busy0.granted = false ∧ hostFirst.schedule busy0.clock = .host ∧ hostFirst.schedule (busy0.clock + 1) = .unit ∧
    unitFirst.schedule busy0.clock = .unit := by
  decide

end Sys2Proof.Tests
end

/-! ### A PARSE's samples fit OBUF (00_scope R14) -/

namespace Sys2Proof.Machine

/-- A header's payload_offset counts its bytes up to the payload (42_block_framer R190). -/
theorem finishHeader_ok {form : HdrForm} {dc p : Nat} {rest payload : List Byte} {h : Header}
    (hf : finishHeader form dc p rest = .ok (h, payload)) :
    h.offset = p + dc ∧ rest.length = dc + payload.length := by
  rcases finishHeader_cases form dc p rest with ⟨c, _, he⟩ | ⟨len, payload', hr, hok⟩
  · rw [hf] at he; cases he
  · rw [hf] at hok
    cases hok
    obtain ⟨ds, rfl, hlen, _⟩ := readLength_ok hr
    exact ⟨rfl, by rw [List.length_append, hlen]⟩

/-- A header that parses is at least two bytes long, and the payload is all that comes after it
(42_block_framer R183, R190). -/
theorem parseHeader_ok_length {bs payload : List Byte} {h : Header} (hp : parseHeader bs = .ok (h, payload)) :
    2 ≤ h.offset ∧ bs.length = h.offset + payload.length := by
  rcases parseHeader_cases bs with ⟨_, he⟩ | ⟨_, he⟩ | ⟨c, rest, rfl, _, ⟨_, he⟩ | ⟨_, hf⟩⟩ |
      ⟨rest, rfl, ⟨e, _, he⟩ | ⟨dc, p, after, hs, hf⟩⟩
  · rw [hp] at he; cases he
  · rw [hp] at he; cases he
  · rw [hp] at he; cases he
  · obtain ⟨hoff, hlen⟩ := finishHeader_ok (hf ▸ hp)
    simp only [List.length_cons]
    omega
  · rw [hp] at he; cases he
  · obtain ⟨hoff, hlen⟩ := finishHeader_ok (hf ▸ hp)
    obtain ⟨ds, rfl, _, _, hpos, _⟩ := scanCount_ok hs
    simp only [List.length_cons, List.length_append]
    omega

/-- Where samples come from: the payload of a header that parsed, cut into PAYLOAD_BYTES div 4 chunks
(42_block_framer R192, R193, R195). -/
theorem parseBlock_samples {job : Job} {h : Header} {pb : Nat} {samples : List DWord}
    (hs : parseBlock job = .tooShort h pb samples ∨ parseBlock job = .success h pb samples) :
    ∃ payload, parseHeader job.bytes = .ok (h, payload) ∧ pb = job.bytes.length - 1 - h.offset ∧
      samples = (chunkWords (pb / 4) payload).map (decodeF32 job.mode) := by
  rcases parseBlock_cases job with ⟨c, _, _, hm⟩ | ⟨h', payload, hp, hb⟩
  · rw [hm] at hs; simp at hs
  · rw [hb] at hs
    rcases parsePayload_cases job.mode job.policy job.bytes.length h' payload with
      ⟨_, hr⟩ | ⟨_, ⟨_, hr⟩ | ⟨_, hr⟩⟩
    · rw [hr] at hs; simp at hs
    all_goals
      simp only [hr, ParseResult.tooShort.injEq, ParseResult.success.injEq, reduceCtorEq, or_false, false_or] at hs
      obtain ⟨rfl, rfl, rfl⟩ := hs
      exact ⟨payload, hp, rfl, rfl⟩

/-- PAYLOAD_BYTES div 4 samples, and the payload lies between a header of two bytes or more and the trailing byte
(42_block_framer R191, R193). -/
theorem parseBlock_samples_length {job : Job} {h : Header} {pb : Nat} {samples : List DWord}
    (hs : parseBlock job = .tooShort h pb samples ∨ parseBlock job = .success h pb samples) :
    samples.length = pb / 4 ∧ pb = job.bytes.length - 1 - h.offset ∧ 2 ≤ h.offset := by
  obtain ⟨payload, hp, rfl, rfl⟩ := parseBlock_samples hs
  obtain ⟨hoff, hlen⟩ := parseHeader_ok_length hp
  exact ⟨by rw [List.length_map, length_chunkWords (by omega)], rfl, hoff⟩

/-- A length part of no digits is empty: everything is payload (42_block_framer R183). -/
@[simp] theorem readLength_zero (bs : List Byte) (len : Nat) : readLength bs 0 len = .ok (len, bs) := by
  cases bs <;> rfl

/-- `#0` is a header of two bytes, whatever follows (42_block_framer R183). -/
theorem parseHeader_hash0 (tail : List Byte) :
    parseHeader (0x23#8 :: 0x30#8 :: tail) = .ok (⟨.plain, 0, 0, 2⟩, tail) := by
  simp [parseHeader, finishHeader, isDigit, digitVal]

/-- The job of `n` bytes that gives the most samples: the shortest header, `#0`, before a payload of zeros. -/
def hash0Job (n : Nat) : Job :=
  { bytes := 0x23#8 :: 0x30#8 :: List.replicate (n - 2) 0#8, mode := .manual, policy := .lenient }

theorem hash0Job_length {n : Nat} (hn : 2 ≤ n) : (hash0Job n).bytes.length = n := by
  simp only [hash0Job, List.length_cons, List.length_replicate]
  omega

/-- LENIENT enforces no length, so a job with header `#0` gives samples, enough of them or not
(42_block_framer R194, R196). -/
theorem parseBlock_hash0Job (n : Nat) :
    ∃ pb samples, parseBlock (hash0Job n) = .tooShort ⟨.plain, 0, 0, 2⟩ pb samples ∨
      parseBlock (hash0Job n) = .success ⟨.plain, 0, 0, 2⟩ pb samples := by
  have hb : parseBlock (hash0Job n) =
      parsePayload .manual .lenient (hash0Job n).bytes.length ⟨.plain, 0, 0, 2⟩ (List.replicate (n - 2) 0#8) := by
    simp only [parseBlock, hash0Job, parseHeader_hash0]
  rw [hb]
  rcases parsePayload_cases .manual .lenient (hash0Job n).bytes.length ⟨.plain, 0, 0, 2⟩
      (List.replicate (n - 2) 0#8) with ⟨⟨hstrict, _⟩, _⟩ | ⟨_, ⟨_, hr⟩ | ⟨_, hr⟩⟩
  · cases hstrict
  · exact ⟨_, _, .inl hr⟩
  · exact ⟨_, _, .inr hr⟩

/-- Settles O27: two header bytes and the trailing byte leave n - 3 bytes at most, and (n - 3) div 4 = n / 4 - 1 for a
multiple of 4; the header `#0` attains it. -/
theorem obufNeverOverflows : Obligations.ObufNeverOverflows := by
  unfold Obligations.ObufNeverOverflows
  intro n hlegal
  obtain ⟨hmod, hmin, _⟩ := ibufBytesLegal_iff.mp hlegal
  refine ⟨fun job h pb samples hle hs => ?_, ?_⟩
  · obtain ⟨hlen, hpb, hoff⟩ := parseBlock_samples_length hs
    omega
  · obtain ⟨pb, samples, hs⟩ := parseBlock_hash0Job n
    have hn := hash0Job_length (show 2 ≤ n by omega)
    obtain ⟨hlen, hpb, _⟩ := parseBlock_samples_length hs
    refine ⟨hash0Job n, _, pb, samples, hn, hs, ?_⟩
    simp only [hn] at hpb
    omega

end Sys2Proof.Machine

/-! ### The machine never stops (00_scope R10) -/

namespace Sys2Proof.Machine

/-- A CMD write is answered, whatever its word and whether the unit is BUSY or not (40_command_interface R120). -/
theorem State.writeCmd_next (s : State) (n : Nat) (v : Word) : ∃ t, s.writeCmd n v = .next t := by
  rcases s.writeCmd_cases n v with ⟨_, h⟩ | ⟨_, h | ⟨_, h⟩ | ⟨_, h⟩ | h⟩ <;> exact ⟨_, h⟩

/-- A host write is answered, at every address and size (20_memory R64). -/
theorem State.busWrite_next (s : State) (n : Nat) (a : Addr) (size : Nat) (v : Word) :
    ∃ t, s.busWrite n a size v = .next t := by
  obtain ⟨t, hcmd⟩ := s.writeCmd_next n v
  have hw := s.busWrite_cases n a size v
  rw [hcmd] at hw
  rcases hw with
    h | ⟨_, h⟩ | ⟨_, _, h⟩ | ⟨_, _, h⟩ | ⟨_, _, ⟨_, h⟩ | ⟨_, h⟩ | ⟨k, _, h⟩ | ⟨_, h⟩⟩ <;> exact ⟨_, h⟩

/-- Every host operation is answered; only a write could have been refused. -/
theorem State.hostOp_next (s : State) (n : Nat) (op : HostOp) : ∃ t, s.hostOp n op = .next t := by
  match op with
  | .access (.read a size) => exact ⟨s.busRead n a size, rfl⟩
  | .access (.write a size v) => exact s.busWrite_next n a size v
  | .waitIdle => exact ⟨s.pollStatus, rfl⟩
  | .reset => exact ⟨s.resetEvent, rfl⟩

/-- The host's turn is answered, with an operation left to run or none. -/
theorem State.hostTurn_next (s : State) (n : Nat) : ∃ t, s.hostTurn n = .next t := by
  unfold State.hostTurn
  split
  · exact ⟨s, rfl⟩
  · exact State.hostOp_next _ n _

/-- A step is answered, whichever agent moves. -/
theorem State.stepWith_next (s : State) (p : Params) : ∃ t, s.stepWith p = .next t := by
  unfold State.stepWith
  split
  · exact s.advance.hostTurn_next p.ibufBytes
  · exact ⟨s.advance.unitTurn, rfl⟩

/-- Settles O46: neither agent's turn can stop, and the instance is one choice of the arguments. -/
theorem stepNeverStops : Obligations.StepNeverStops := by
  unfold Obligations.StepNeverStops
  exact fun s => ⟨step_eq s ▸ s.stepWith_next Config.params, s.stepWith_next⟩

end Sys2Proof.Machine

/-! ### What a step can do to the part of the state that BUSY guards -/

namespace Sys2Proof.Machine

/-- The part of the state that BUSY guards: no host access changes it while BUSY = 1. Blanked out is what an access may
change at any time: the sticky flags and DEC_IN (40_command_interface R126), the host's program and the model's records. -/
def State.guarded (s : State) : State :=
  { s with
    addrErr := false, wrIgnored := false, decIn := 0#32
    script := [], clock := 0, granted := false, replies := [], draws := 0 }

@[simp] theorem State.guarded_advance (s : State) : s.advance.guarded = s.guarded := rfl
@[simp] theorem State.guarded_setScript (s : State) (ops : List HostOp) : (s.setScript ops).guarded = s.guarded := rfl
@[simp] theorem State.guarded_reply (s : State) (v : Word) : (s.reply v).guarded = s.guarded := rfl
@[simp] theorem State.guarded_replyDraw (s : State) : s.replyDraw.guarded = s.guarded := rfl
@[simp] theorem State.guarded_setAddrErr (s : State) : s.setAddrErr.guarded = s.guarded := rfl

/-- States that agree on what BUSY guards agree on every reading `f` of it alone. -/
theorem State.congr_guarded {α : Sort _} {s t : State} (f : State → α) (h : t.guarded = s.guarded)
    (hf : ∀ u : State, f u.guarded = f u := by intro _; rfl) : f t = f s := by
  rw [← hf t, h, hf s]

theorem State.busy_of_guarded {s t : State} (h : t.guarded = s.guarded) : t.busy = s.busy :=
  State.congr_guarded State.busy h

/-- A host read changes nothing that BUSY guards (20_memory R70). -/
@[simp] theorem State.guarded_busRead (s : State) (n : Nat) (a : Addr) (size : Nat) :
    (s.busRead n a size).guarded = s.guarded := by
  rcases s.busRead_cases n a size with h | ⟨v, h⟩ | ⟨_, h⟩ <;> simp [h]

/-- All that a turn of WAIT_IDLE can do: a reply, and itself back on the script (30_encoding R103). -/
theorem State.pollStatus_cases (s : State) :
    s.pollStatus = s.reply s.statusWord ∨ s.pollStatus = (s.reply s.statusWord).setScript (.waitIdle :: s.script) := by
  unfold State.pollStatus
  split
  · exact .inr rfl
  · exact .inl rfl

@[simp] theorem State.guarded_pollStatus (s : State) : s.pollStatus.guarded = s.guarded := by
  rcases s.pollStatus_cases with h | h <;> simp [h]

/-- The host writes that change nothing BUSY guards, each with its effect: not admitted, discarded, W1C, DEC_IN, NOP. -/
inductive State.FreeWrite (n : Nat) (a : Addr) (size : Nat) (v : Word) (s : State) : State → Prop
  | addrErr : FreeWrite n a size v s s.setAddrErr
  | ignored : FreeWrite n a size v s s.ignoreWrite
  | status (word : size = 32) (loc : locate n a = some (.reg .status)) : FreeWrite n a size v s (s.writeStatus v)
  | decIn : FreeWrite n a size v s (s.setDecIn v)
  | nop : FreeWrite n a size v s s

/-- The host writes that change what BUSY guards, each with its effect: all to a place that takes them with BUSY = 0 alone
(40_command_interface R120, R125). -/
inductive State.IdleWrite (n : Nat) (a : Addr) (v : Word) (s : State) : State → Prop
  | cfg : IdleWrite n a v s (s.writeCfg v)
  | rawLen : IdleWrite n a v s (s.setRawLen v)
  | ibuf (k : Nat) (loc : locate n a = some (.ibufWord k)) : IdleWrite n a v s (s.putIbufWord k v)
  | decode : IdleWrite n a v s s.doDecode
  | parse (loc : locate n a = some (.reg .cmd)) (dec : Sys2Proof.decode v = .ok .parse) :
      IdleWrite n a v s (s.acceptParse n)
  | illegal : IdleWrite n a v s (s.raise .illegalCmd .none)

theorem State.FreeWrite.guarded {s t : State} {n : Nat} {a : Addr} {size : Nat} {v : Word}
    (h : s.FreeWrite n a size v t) : t.guarded = s.guarded := by
  cases h <;> rfl

/-- A host write that is answered is free of BUSY, or it is a 32-bit one taken with BUSY = 0. -/
theorem State.busWrite_effect {s t : State} {n : Nat} {a : Addr} {size : Nat} {v : Word}
    (h : s.busWrite n a size v = .next t) :
    s.FreeWrite n a size v t ∨ (s.busy = false ∧ size = 32 ∧ s.IdleWrite n a v t) := by
  have hw := s.busWrite_cases n a size v
  rw [h] at hw
  simp only [Host.Outcome.next.injEq] at hw
  rcases hw with rfl | ⟨_, rfl⟩ | ⟨hsize, hl, rfl⟩ | ⟨_, _, rfl⟩ |
    ⟨hb, hsize, ⟨_, rfl⟩ | ⟨_, rfl⟩ | ⟨k, hl, rfl⟩ | ⟨hl, hc⟩⟩
  · exact .inl .addrErr
  · exact .inl .ignored
  · exact .inl (.status hsize hl)
  · exact .inl .decIn
  · exact .inr ⟨hb, hsize, .cfg⟩
  · exact .inr ⟨hb, hsize, .rawLen⟩
  · exact .inr ⟨hb, hsize, .ibuf k hl⟩
  · have hv := s.writeCmd_cases n v
    rw [← hc] at hv
    simp only [Host.Outcome.next.injEq] at hv
    rcases hv with ⟨_, rfl⟩ | ⟨_, rfl | ⟨_, rfl⟩ | ⟨hd, rfl⟩ | rfl⟩
    · exact .inl .ignored
    · exact .inl .nop
    · exact .inr ⟨hb, hsize, .decode⟩
    · exact .inr ⟨hb, hsize, .parse hl hd⟩
    · exact .inr ⟨hb, hsize, .illegal⟩

/-- All that a step from `s` can do to what BUSY guards, and who did it. Each effect is on a state `u` that differs from `s`
only where BUSY does not guard. -/
inductive State.StepEffect (p : Params) (s : State) : State → Prop
  | quiet {t : State} (same : t.guarded = s.guarded) : StepEffect p s t
  | completion {u : State} (job : Job) (same : u.guarded = s.guarded) (agent : s.nextAgent p.schedule = .unit)
      (parsing : s.fsm = .parsing job) : StepEffect p s (u.complete job)
  | reset {u : State} (agent : s.nextAgent p.schedule = .host) (op : s.script.head? = some .reset) :
      StepEffect p s u.resetEvent
  | write {u t : State} (a : Addr) (v : Word) (same : u.guarded = s.guarded) (idle : s.busy = false)
      (op : s.script.head? = some (.access (.write a 32 v))) (effect : u.IdleWrite p.ibufBytes a v t) :
      StepEffect p s t

theorem State.unitTurn_idle {s : State} (h : s.fsm = .idle) : s.unitTurn = s := by simp [State.unitTurn, h]

theorem State.unitTurn_parsing {s : State} {job : Job} (h : s.fsm = .parsing job) : s.unitTurn = s.complete job := by
  simp [State.unitTurn, h]

/-- Every step has one of the four effects. -/
theorem stepWith_effect {s t : State} {p : Params} (h : s.stepWith p = .next t) : s.StepEffect p t := by
  rcases stepWith_cases h with ⟨hagent, rfl⟩ | ⟨hagent, ⟨_, rfl⟩ | ⟨op, rest, hs, hop⟩⟩
  · cases hf : s.fsm with
    | idle => exact .quiet (by rw [State.unitTurn_idle (s := s.advance) hf, State.guarded_advance])
    | parsing job =>
      rw [State.unitTurn_parsing (s := s.advance) hf]
      exact .completion job s.guarded_advance hagent hf
  · exact .quiet s.guarded_advance
  · rcases hop with ⟨rfl, rfl⟩ | ⟨_, rfl⟩ | ⟨a, size, _, rfl⟩ | ⟨a, size, v, rfl, hw⟩
    · exact .reset hagent (by simp [hs])
    · exact .quiet (by simp)
    · exact .quiet (by simp)
    · rcases State.busWrite_effect hw with hfree | ⟨hb, rfl, he⟩
      · exact .quiet hfree.guarded
      · exact .write (u := s.advance.setScript rest) a v rfl hb (by simp [hs]) he

end Sys2Proof.Machine

/-! ### While a PARSE is in progress its job's sources stay (10_state R36) -/

namespace Sys2Proof.Machine

/-- An IDLE unit has no job to keep. -/
theorem State.jobFixed_of_idle {s : State} (n : Nat) (h : s.fsm = .idle) : s.jobFixed n := by
  simp [State.jobFixed, h]

theorem State.jobFixed_of_guarded {s t : State} {n : Nat} (h : t.guarded = s.guarded) (hs : s.jobFixed n) :
    t.jobFixed n :=
  (State.congr_guarded (·.jobFixed n) h).mpr hs

/-- An accepted PARSE fixes the job its sources hold, after the check of RAW_LEN (40_command_interface R123). -/
theorem State.jobFixed_acceptParse {s : State} (n : Nat) (h : s.fsm = .idle) : (s.acceptParse n).jobFixed n := by
  unfold State.acceptParse
  split
  · exact State.jobFixed_of_idle n h
  · rename_i hle
    exact ⟨rfl, Nat.le_of_not_lt hle⟩

/-- A write taken with BUSY = 0 leaves the unit IDLE, or it is the acceptance of a PARSE. -/
theorem State.IdleWrite.jobFixed {s t : State} {n : Nat} {a : Addr} {v : Word} (h : s.IdleWrite n a v t)
    (hidle : s.busy = false) : t.jobFixed n := by
  have hfsm := State.idle_iff.mp hidle
  cases h with
  | parse => exact State.jobFixed_acceptParse n hfsm
  | cfg | rawLen | ibuf | decode | illegal => exact State.jobFixed_of_idle n hfsm

/-- A step leaves the sources of the job alone, or the unit IDLE, or it accepts a PARSE. -/
theorem stepWith_jobFixed {s t : State} {p : Params} (hs : s.jobFixed p.ibufBytes) (h : s.stepWith p = .next t) :
    t.jobFixed p.ibufBytes := by
  cases stepWith_effect h with
  | quiet same => exact State.jobFixed_of_guarded same hs
  | completion | reset => exact State.jobFixed_of_idle _ rfl
  | write a v same idle _ effect => exact effect.jobFixed (State.busy_of_guarded same ▸ idle)

/-- Settles O48: host writes that would change the sources are discarded while BUSY = 1, and an acceptance fixes the job
they hold. -/
theorem stepKeepsJobFixed : Obligations.StepKeepsJobFixed := by
  unfold Obligations.StepKeepsJobFixed
  exact ⟨fun _ _ => stepWith_jobFixed (p := Config.params), fun _ _ _ => stepWith_jobFixed⟩

end Sys2Proof.Machine

/-! ### Every step keeps the invariant (10_state R26, R32, R33, R35, R36) -/

namespace Sys2Proof.Machine

theorem State.inv_of_guarded {s t : State} {n : Nat} (h : t.guarded = s.guarded) (hs : s.Inv n) : t.Inv n :=
  (State.congr_guarded (·.Inv n) h).mpr hs

/-- A reset event empties the buffers and clears every register (70_reset_and_hazards R271). -/
theorem State.inv_resetEvent (s : State) (n : Nat) : s.resetEvent.Inv n := by
  exact ⟨State.memoryLegal_iff.mpr (Memory.wf_reset n), rfl, State.jobFixed_of_idle n rfl,
    State.reservedZero_iff.mpr ⟨BitVec.zero_and, BitVec.zero_and, BitVec.zero_and⟩,
    State.countsLegal_iff.mpr ⟨.inr rfl, Nat.zero_le _⟩⟩

/-- An outcome is recorded with a cause exactly when it is MALFORMED_HEADER (60_exceptions R242). -/
theorem State.causeLegal_raise (s : State) {e : ErrCode} {c : HdrCause} (h : e = .malformedHeader → c ≠ .none) :
    (s.raise e c).causeLegal = true := by
  rw [State.causeLegal_iff, State.raise_err, State.raise_hdrCause]
  by_cases he : e = .malformedHeader
  · simp [he, h he]
  · simp [he]

/-- DEC_INFO's fields leave its reserved bits 0 (10_state R32). -/
theorem decInfoWord_reserved (w : Word) : decInfoWord w &&& 0xFE0000FC#32 = 0#32 := by
  change (0#7 ++ f32ExpUnb w ++ f32Exp w ++ 0#6 ++ BitVec.ofBool (f32Lead w) ++ BitVec.ofBool (f32Sign w)) &&&
    (0x7F#7 ++ 0#9 ++ 0#8 ++ 0x3F#6 ++ 0#1 ++ 0#1) = 0#32
  simp only [BitVec.and_append, BitVec.zero_and, BitVec.and_zero]
  rfl

/-- A mantissa leaves DEC_MANT's reserved bits 0 (10_state R33). -/
theorem setWidth_mant_reserved (m : BitVec 23) : m.setWidth 32 &&& 0xFF800000#32 = 0#32 := by
  have hword : m.setWidth 32 = 0#9 ++ m := BitVec.setWidth_eq_append (by decide)
  rw [hword]
  change (0#9 ++ m) &&& (0x1FF#9 ++ 0#23) = 0#32
  rw [BitVec.and_append, BitVec.zero_and, BitVec.and_zero]
  rfl

/-- HDR_FORM has one bit (10_state R35). -/
theorem HdrForm.word_reserved (f : HdrForm) : f.word &&& 0xFFFFFFFE#32 = 0#32 := by cases f <;> rfl

/-- DECODE writes words with reserved bits 0, and records NONE. -/
theorem State.inv_doDecode {s : State} {n : Nat} (hs : s.Inv n) : s.doDecode.Inv n := by
  obtain ⟨hmem, _, hjob, hres, hcount⟩ := hs
  obtain ⟨_, _, hform⟩ := State.reservedZero_iff.mp hres
  exact ⟨hmem, State.causeLegal_raise _ (by simp), hjob,
    State.reservedZero_iff.mpr ⟨decInfoWord_reserved _, setWidth_mant_reserved _, hform⟩, hcount⟩

theorem State.inv_raise {s : State} {n : Nat} {e : ErrCode} (he : e ≠ .malformedHeader) (hs : s.Inv n) :
    (s.raise e .none).Inv n := by
  obtain ⟨hmem, _, hjob, hres, hcount⟩ := hs
  exact ⟨hmem, s.causeLegal_raise (absurd · he), hjob, hres, hcount⟩

theorem State.inv_acceptParse {s : State} {n : Nat} (hidle : s.busy = false) (hs : s.Inv n) :
    (s.acceptParse n).Inv n := by
  have hjob := State.jobFixed_acceptParse n (State.idle_iff.mp hidle)
  unfold State.acceptParse at hjob ⊢
  split
  · exact State.inv_raise (by simp) hs
  · rename_i hle
    rw [if_neg hle] at hjob
    obtain ⟨hmem, hcause, _, hres, hcount⟩ := hs
    exact ⟨hmem, hcause, hjob, hres, hcount⟩

/-- An IBUF write lies within IBUF, whose size is a multiple of 4 (20_memory R63, 00_scope R12). -/
theorem State.memoryLegal_putIbufWord {s : State} {n k : Nat} (v : Word) (hk : 4 * k + 4 ≤ n)
    (hs : s.memoryLegal n = true) : (s.putIbufWord k v).memoryLegal n = true := by
  obtain ⟨hibuf, hobuf⟩ := State.memoryLegal_iff.mp hs
  exact State.memoryLegal_iff.mpr ⟨Memory.wf_putAll _ hk hibuf, hobuf⟩

theorem State.IdleWrite.inv {s t : State} {n : Nat} {a : Addr} {v : Word} (h : s.IdleWrite n a v t)
    (hn : n % 4 = 0) (hidle : s.busy = false) (hs : s.Inv n) : t.Inv n := by
  have hjob := h.jobFixed hidle
  cases h with
  | decode => exact State.inv_doDecode hs
  | parse => exact State.inv_acceptParse hidle hs
  | illegal => exact State.inv_raise (by simp) hs
  | cfg | rawLen =>
    obtain ⟨hmem, hcause, _, hres, hcount⟩ := hs
    exact ⟨hmem, hcause, hjob, hres, hcount⟩
  | ibuf k loc =>
    obtain ⟨hmem, hcause, _, hres, hcount⟩ := hs
    exact ⟨State.memoryLegal_putIbufWord v (ibufWord_in_range hn loc) hmem, hcause, hjob, hres, hcount⟩

/-- What a completion in a unit with `n` bytes of IBUF relies on: a failed header has a cause, and there are PAYLOAD_BYTES
div 4 samples, which fit OBUF (42_block_framer R189, R193; 00_scope R14). -/
def ParseResult.Fits (n : Nat) : ParseResult → Prop
  | .malformed c => c ≠ .none
  | .lengthMismatch _ _ => True
  | .tooShort _ pb samples => samples.length = pb / 4 ∧ pb / 4 ≤ Config.obufSamples n ∧ pb ≤ n
  | .success _ pb samples => samples.length = pb / 4 ∧ pb / 4 ≤ Config.obufSamples n ∧ pb ≤ n

theorem parseBlock_fits {job : Job} {n : Nat} (hn : n % 4 = 0) (hlen : job.bytes.length ≤ n) :
    (parseBlock job).Fits n := by
  have hsamples : ∀ {h pb samples}, parseBlock job = .tooShort h pb samples ∨ parseBlock job = .success h pb samples →
      samples.length = pb / 4 ∧ pb / 4 ≤ Config.obufSamples n ∧ pb ≤ n := by
    intro h pb samples hr
    obtain ⟨hcount, hpb, hoff⟩ := parseBlock_samples_length hr
    unfold Config.obufSamples
    exact ⟨hcount, by omega, by omega⟩
  cases hr : parseBlock job with
  | malformed c =>
    rcases parseBlock_cases job with ⟨c', hc, _, hm⟩ | ⟨h, payload, _, hp⟩
    · rw [hr] at hm
      cases hm
      exact hc
    · rw [hr] at hp
      rcases parsePayload_cases job.mode job.policy job.bytes.length h payload with
        ⟨_, h'⟩ | ⟨_, ⟨_, h'⟩ | ⟨_, h'⟩⟩ <;> rw [h'] at hp <;> cases hp
  | lengthMismatch h pb => trivial
  | tooShort h pb samples => exact hsamples (.inl hr)
  | success h pb samples => exact hsamples (.inr hr)

/-- HDR_FORM's reserved bits are 0 after every outcome, and DECODE's results are not the framer's (10_state R32 to R35). -/
theorem State.reservedZero_putOutcome {s : State} (r : ParseResult) (hs : s.reservedZero = true) :
    (s.putOutcome r).reservedZero = true := by
  obtain ⟨hinfo, hmant, _⟩ := State.reservedZero_iff.mp hs
  cases r with
  | malformed => exact State.reservedZero_iff.mpr ⟨hinfo, hmant, HdrForm.word_reserved .plain⟩
  | lengthMismatch h | tooShort h | success h =>
    exact State.reservedZero_iff.mpr ⟨hinfo, hmant, HdrForm.word_reserved h.form⟩

theorem State.causeLegal_putOutcome (s : State) {r : ParseResult} {n : Nat} (hr : r.Fits n) :
    (s.putOutcome r).causeLegal = true := by
  cases r with
  | malformed => exact State.causeLegal_raise _ fun _ => hr
  | lengthMismatch | tooShort | success => exact State.causeLegal_raise _ (by simp)

/-- Samples go to OBUF from entry 0 on, and a header that failed or a wrong length writes none (42_block_framer R198). -/
theorem State.memoryLegal_putOutcome {s : State} {r : ParseResult} {n : Nat} (hr : r.Fits n)
    (hs : s.memoryLegal n = true) : (s.putOutcome r).memoryLegal n = true := by
  obtain ⟨hibuf, hobuf⟩ := State.memoryLegal_iff.mp hs
  cases r with
  | malformed | lengthMismatch => exact hs
  | tooShort | success =>
    obtain ⟨hlen, hfit, _⟩ := hr
    exact State.memoryLegal_iff.mpr ⟨hibuf, Memory.wf_putAll _ (by omega) hobuf⟩

/-- A payload within IBUF_BYTES is far below the saturation of the count registers (42_block_framer R187). -/
theorem countWord_div_four {n pb : Nat} (hn : n ≤ 1048576) (hpb : pb ≤ n) :
    (countWord (pb / 4)).toNat = (countWord pb).toNat / 4 ∧ (countWord (pb / 4)).toNat = pb / 4 := by
  simp only [toNat_countWord, Config.countMax]
  omega

theorem State.countsLegal_putOutcome (s : State) {r : ParseResult} {n : Nat} (hn : n ≤ 1048576) (hr : r.Fits n) :
    (s.putOutcome r).countsLegal n = true := by
  rw [State.countsLegal_iff]
  cases r with
  | malformed | lengthMismatch => exact ⟨.inr rfl, Nat.zero_le _⟩
  | tooShort _ pb | success _ pb =>
    obtain ⟨_, hfit, hpb⟩ := hr
    obtain ⟨hdiv, hval⟩ := countWord_div_four hn hpb
    exact ⟨.inl hdiv, hval ▸ hfit⟩

theorem State.inv_complete {s : State} {n : Nat} {job : Job} (hn : ibufBytesLegal n = true) (hs : s.Inv n)
    (hparsing : s.fsm = .parsing job) : (s.complete job).Inv n := by
  obtain ⟨hmod, _, hmax⟩ := ibufBytesLegal_iff.mp hn
  obtain ⟨hmem, _, hjob, hres, _⟩ := hs
  simp only [State.jobFixed, hparsing] at hjob
  obtain ⟨rfl, hle⟩ := hjob
  have hr : (parseBlock (captureJob s)).Fits n := parseBlock_fits hmod ((length_ibufBytesUpTo s _).trans_le hle)
  exact ⟨State.memoryLegal_putOutcome hr hmem, s.causeLegal_putOutcome hr, State.jobFixed_of_idle n rfl,
    State.reservedZero_putOutcome _ hres, s.countsLegal_putOutcome hmax hr⟩

/-- Each effect of a step keeps the invariant. -/
theorem stepWith_inv {s t : State} {p : Params} (hp : p.legal = true) (hs : s.Inv p.ibufBytes)
    (h : s.stepWith p = .next t) : t.Inv p.ibufBytes := by
  cases stepWith_effect h with
  | quiet same => exact State.inv_of_guarded same hs
  | completion job same _ parsing =>
    exact State.inv_complete hp (State.inv_of_guarded same hs) ((State.congr_guarded State.fsm same).trans parsing)
  | reset => exact State.inv_resetEvent _ _
  | write a v same idle _ effect =>
    exact effect.inv (ibufBytesLegal_iff.mp hp).1 (State.busy_of_guarded same ▸ idle) (State.inv_of_guarded same hs)

/-- Settles O47: every effect of a step keeps every part of the invariant; a completion keeps it because the job still is
what IBUF, RAW_LEN and CFG hold, so that its samples fit OBUF. -/
theorem stepKeepsInvariant : Obligations.StepKeepsInvariant := by
  unfold Obligations.StepKeepsInvariant
  exact ⟨fun _ _ => stepWith_inv Config.params_legal, fun _ _ _ => stepWith_inv⟩

end Sys2Proof.Machine

/-! ### Who changes what: ERR and the results, BUSY, IBUF (10_state R24, R25, R35, R38) -/

namespace Sys2Proof.Machine

/-- Settles O53: while BUSY = 1 the only effects are one on what BUSY does not guard, and two that clear BUSY. -/
theorem resultsHeldWhileBusy : Obligations.ResultsHeldWhileBusy := by
  unfold Obligations.ResultsHeldWhileBusy
  intro p s t hs h ht
  cases stepWith_effect h with
  | quiet same =>
    exact ⟨State.congr_guarded State.fsm same, State.congr_guarded State.err same,
      State.congr_guarded State.hdrCause same, State.congr_guarded State.hdrForm same,
      State.congr_guarded State.hdrDigits same, State.congr_guarded State.hdrLength same,
      State.congr_guarded State.payloadOff same, State.congr_guarded State.payloadBytes same,
      State.congr_guarded State.sampleCount same, fun j => State.congr_guarded (obufEntry · j) same⟩
  | completion => cases ht
  | reset => cases ht
  | write a v same idle => rw [hs] at idle; cases idle

/-- A command word is its two fields (30_encoding R98). -/
theorem joinCmd_splitCmd (v : Word) : joinCmd (splitCmd v) = v := BitVec.extractLsb'_append_extractLsb'

/-- A word that decodes to a command is that command's word (30_encoding R99). -/
theorem eq_encode_of_decode {v : Word} {i : Instr} (h : Sys2Proof.decode v = .ok i) : v = encode i := by
  have hcmd : splitCmd v = i.cmdWord := by
    unfold Sys2Proof.decode at h
    split_ifs at h with hmbz h0 h1 h2 <;> cases h
    · exact congrArg₂ CmdWord.mk h0 (not_not.mp hmbz)
    · exact congrArg₂ CmdWord.mk h1 (not_not.mp hmbz)
    · exact congrArg₂ CmdWord.mk h2 (not_not.mp hmbz)
  rw [encode, ← hcmd, joinCmd_splitCmd]

/-- A register stands at its own address (20_memory R62). -/
theorem addr_of_regAt {k : Nat} {r : Reg} (h : regAt k = some r) : r.addr.toNat = 4 * k := by
  unfold regAt at h
  split at h <;> cases h <;> rfl

/-- Only a register's own address selects it (20_memory R62). -/
theorem addr_of_locate_reg {n : Nat} {a : Addr} {r : Reg} (h : locate n a = some (.reg r)) : a = r.addr := by
  obtain ⟨h4, ⟨_, r', hr, hat⟩ | ⟨_, _, _, hl⟩ | ⟨_, _, ⟨_, hl⟩ | ⟨_, hl⟩⟩⟩ := locate_cases n a _ h
  · cases hr
    have haddr := addr_of_regAt hat
    exact BitVec.eq_of_toNat_eq (by omega)
  all_goals cases hl

/-- A PARSE sets BUSY only after the check of RAW_LEN (42_block_framer R181). -/
theorem State.rawLen_le_of_acceptParse_busy {s : State} {n : Nat} (hs : s.busy = false)
    (h : (s.acceptParse n).busy = true) : s.rawLen.toNat ≤ n := by
  unfold State.acceptParse at h
  split at h
  · rw [State.raise_busy, hs] at h
    cases h
  · omega

/-- Of the writes taken with BUSY = 0, only that of the PARSE word to CMD sets BUSY (40_command_interface R124). -/
theorem State.IdleWrite.parse_of_busy {s t : State} {n : Nat} {a : Addr} {v : Word} (h : s.IdleWrite n a v t)
    (hs : s.busy = false) (ht : t.busy = true) :
    a = Reg.cmd.addr ∧ v = encode .parse ∧ s.rawLen.toNat ≤ n := by
  cases h with
  | parse loc dec =>
    exact ⟨addr_of_locate_reg loc, eq_encode_of_decode dec, State.rawLen_le_of_acceptParse_busy hs ht⟩
  | cfg | rawLen | ibuf | decode | illegal => exact absurd (hs.symm.trans ht) Bool.false_ne_true

/-- Settles O54: of the effects of a step, only an idle write can set BUSY, and only a completion and a reset clear it. -/
theorem busyRisesAndFalls : Obligations.BusyRisesAndFalls := by
  unfold Obligations.BusyRisesAndFalls
  intro p s t h
  cases stepWith_effect h with
  | quiet same =>
    rw [State.busy_of_guarded same]
    exact ⟨fun h0 h1 => absurd (h0.symm.trans h1) Bool.false_ne_true,
      fun h1 h0 => absurd (h0.symm.trans h1) Bool.false_ne_true⟩
  | completion job _ agent => exact ⟨fun _ ht => absurd ht Bool.false_ne_true, fun _ _ => .inl agent⟩
  | reset agent op => exact ⟨fun _ ht => absurd ht Bool.false_ne_true, fun _ _ => .inr ⟨agent, op⟩⟩
  | @write u _ a v same idle op effect =>
    refine ⟨fun _ ht => ?_, fun hs => absurd (idle.symm.trans hs) Bool.false_ne_true⟩
    obtain ⟨rfl, rfl, hle⟩ := effect.parse_of_busy ((State.busy_of_guarded same).trans idle) ht
    exact ⟨State.nextAgent_idle idle _, State.congr_guarded State.rawLen same ▸ hle, op⟩

theorem ibufByte_of_guarded {s t : State} (h : t.guarded = s.guarded) (i : Nat) : ibufByte t i = ibufByte s i :=
  State.congr_guarded (ibufByte · i) h

theorem ibufByte_complete (s : State) (job : Job) (i : Nat) : ibufByte (s.complete job) i = ibufByte s i := by
  simp [ibufByte, complete_frame s job]

theorem ibufByte_acceptParse (s : State) (n i : Nat) : ibufByte (s.acceptParse n) i = ibufByte s i := by
  unfold State.acceptParse
  split <;> rfl

/-- Of the writes taken with BUSY = 0, only one to the word that holds an IBUF byte changes it (20_memory R63). -/
theorem State.IdleWrite.ibufByte_ne {s t : State} {n i : Nat} {a : Addr} {v : Word} (h : s.IdleWrite n a v t)
    (hne : ibufByte t i ≠ ibufByte s i) :
    locate n a = some (.ibufWord (i / 4)) ∧ ibufByte t i = v.extractLsb' (8 * (i % 4)) 8 := by
  cases h with
  | ibuf k loc =>
    rw [ibufByte_putIbufWord] at hne ⊢
    split at hne
    · rename_i hin
      obtain ⟨hk, hi⟩ : i / 4 = k ∧ i - 4 * k = i % 4 := by omega
      rw [if_pos hin, hk, hi]
      exact ⟨loc, rfl⟩
    · exact absurd rfl hne
  | parse => exact absurd (ibufByte_acceptParse s n i) hne
  | cfg | rawLen | decode | illegal => exact absurd rfl hne

/-- Settles O56: of the effects of a step, only a reset and an idle write to IBUF change an IBUF byte. -/
theorem ibufWrittenOnlyByHost : Obligations.IbufWrittenOnlyByHost := by
  unfold Obligations.IbufWrittenOnlyByHost
  intro p s t i h hne
  cases stepWith_effect h with
  | quiet same => exact absurd (ibufByte_of_guarded same i) hne
  | completion job same => exact absurd ((ibufByte_complete _ job i).trans (ibufByte_of_guarded same i)) hne
  | reset agent op => exact ⟨agent, .inl op⟩
  | write a v same idle op effect =>
    obtain ⟨hloc, hbyte⟩ := effect.ibufByte_ne (ibufByte_of_guarded same i ▸ hne)
    exact ⟨State.nextAgent_idle idle _, .inr ⟨idle, a, v, op, hloc, hbyte⟩⟩

end Sys2Proof.Machine

/-! ### The sticky flags (10_state R27, R28) -/

namespace Sys2Proof.Machine

/-- Neither sticky flag falls from `s` to `t`. -/
def State.FlagsKept (s t : State) : Prop :=
  (s.addrErr = true → t.addrErr = true) ∧ (s.wrIgnored = true → t.wrIgnored = true)

theorem State.flagsKept_of_eq {s t : State} (ha : t.addrErr = s.addrErr) (hw : t.wrIgnored = s.wrIgnored) :
    s.FlagsKept t := ⟨ha.trans, hw.trans⟩

/-- The unit's turn touches neither flag (42_block_framer R199). -/
theorem State.flagsKept_unitTurn (s : State) : s.FlagsKept s.unitTurn := by
  cases hf : s.fsm with
  | idle => exact State.flagsKept_of_eq (by rw [State.unitTurn_idle hf]) (by rw [State.unitTurn_idle hf])
  | parsing job =>
    rw [State.unitTurn_parsing hf]
    obtain ⟨ha, hw, _⟩ := complete_frame s job
    exact State.flagsKept_of_eq ha hw

theorem State.flagsKept_busRead (s : State) (n : Nat) (a : Addr) (size : Nat) : s.FlagsKept (s.busRead n a size) := by
  rcases s.busRead_cases n a size with h | ⟨v, h⟩ | ⟨_, h⟩ <;> simp [State.FlagsKept, h]

theorem State.flagsKept_pollStatus (s : State) : s.FlagsKept s.pollStatus := by
  rcases s.pollStatus_cases with h | h <;> simp [State.FlagsKept, h]

theorem State.IdleWrite.flagsKept {s t : State} {n : Nat} {a : Addr} {v : Word} (h : s.IdleWrite n a v t) :
    s.FlagsKept t := by
  cases h with
  | parse =>
    unfold State.acceptParse
    split <;> exact State.flagsKept_of_eq rfl rfl
  | cfg | rawLen | ibuf | decode | illegal => exact State.flagsKept_of_eq rfl rfl

/-- Of all writes, only a 32-bit one to STATUS can clear a flag (10_state R23). -/
theorem State.busWrite_flags {s t : State} {n : Nat} {a : Addr} {size : Nat} {v : Word}
    (h : s.busWrite n a size v = .next t) :
    s.FlagsKept t ∨ (size = 32 ∧ a = Reg.status.addr ∧ t = s.writeStatus v) := by
  rcases State.busWrite_effect h with hfree | ⟨_, _, hidle⟩
  · cases hfree with
    | status word loc => exact .inr ⟨word, addr_of_locate_reg loc, rfl⟩
    | addrErr => exact .inl ⟨fun _ => rfl, id⟩
    | ignored => exact .inl ⟨id, fun _ => rfl⟩
    | decIn | nop => exact .inl ⟨id, id⟩
  · exact .inl hidle.flagsKept

/-- A step that does not keep both flags is the host's reset or its 32-bit write to STATUS. -/
theorem stepWith_flags {s t : State} {p : Params} (h : s.stepWith p = .next t) :
    s.FlagsKept t ∨ (s.nextAgent p.schedule = .host ∧ (s.script.head? = some .reset ∨
      ∃ v, s.script.head? = some (.access (.write 0x000004#24 32 v)) ∧
        t.addrErr = (s.addrErr && !v.getLsbD 16) ∧ t.wrIgnored = (s.wrIgnored && !v.getLsbD 17))) := by
  rcases stepWith_cases h with ⟨_, rfl⟩ | ⟨hagent, ⟨_, rfl⟩ | ⟨op, rest, hs, hop⟩⟩
  · exact .inl s.advance.flagsKept_unitTurn
  · exact .inl ⟨id, id⟩
  · rcases hop with ⟨rfl, _⟩ | ⟨_, rfl⟩ | ⟨a, size, _, rfl⟩ | ⟨a, size, v, rfl, hw⟩
    · exact .inr ⟨hagent, .inl (by simp [hs])⟩
    · exact .inl (s.advance.setScript rest).flagsKept_pollStatus
    · exact .inl ((s.advance.setScript rest).flagsKept_busRead _ a size)
    · rcases State.busWrite_flags hw with hkept | ⟨rfl, rfl, rfl⟩
      · exact .inl hkept
      · exact .inr ⟨hagent, .inr ⟨v, by simp [hs, Reg.addr], rfl, rfl⟩⟩

/-- A flag that a write to STATUS clears has a 1 in the data (10_state R23, W1C). -/
theorem bit_of_w1c {flag flag' bit : Bool} (h : flag' = (flag && !bit)) (h1 : flag = true) (h0 : flag' = false) :
    bit = true := by
  subst h1
  simpa [h0] using h

/-- Settles O57: a flag falls only at the two host operations that stepWith_flags leaves. -/
theorem stickyFlagsFall : Obligations.StickyFlagsFall := by
  unfold Obligations.StickyFlagsFall
  intro p s t h
  rcases stepWith_flags h with ⟨ha, hw⟩ | ⟨hagent, hreset | ⟨v, hop, ha, hw⟩⟩
  · exact ⟨fun h1 h0 => absurd (h0.symm.trans (ha h1)) Bool.false_ne_true,
      fun h1 h0 => absurd (h0.symm.trans (hw h1)) Bool.false_ne_true⟩
  · exact ⟨fun _ _ => ⟨hagent, .inl hreset⟩, fun _ _ => ⟨hagent, .inl hreset⟩⟩
  · exact ⟨fun h1 h0 => ⟨hagent, .inr ⟨v, hop, bit_of_w1c ha h1 h0⟩⟩,
      fun h1 h0 => ⟨hagent, .inr ⟨v, hop, bit_of_w1c hw h1 h0⟩⟩⟩

end Sys2Proof.Machine

/-! ### The STATUS and CFG registers (10_state R23 to R31) -/

namespace Sys2Proof.Machine

/-- A 32-bit write to a register's address reaches that register in every unit (20_memory R62). -/
theorem State.access_write_reg (s : State) (n : Nat) (r : Reg) (v : Word) :
    s.access n (.write r.addr 32 v) = s.writeReg n v r := by
  simp [State.access, State.busWrite, locate_reg, State.writeLoc]

/-- Settles O43: the codes are the model's two tables, row by row. -/
theorem outcomeCodes : Obligations.OutcomeCodes := by
  unfold Obligations.OutcomeCodes
  exact ⟨rfl, rfl, rfl, rfl, rfl, rfl, rfl, rfl, rfl, rfl, rfl⟩

/-- The STATUS fields of more than one bit and the reserved ranges, each cut out of the word at its place. -/
theorem State.statusWord_fields (s : State) :
    s.statusWord.extractLsb' 1 3 = 0#3 ∧ s.statusWord.extractLsb' 4 4 = s.err.code ∧
      s.statusWord.extractLsb' 8 3 = s.hdrCause.code ∧ s.statusWord.extractLsb' 11 5 = 0#5 ∧
      s.statusWord.extractLsb' 18 14 = 0#14 := by
  unfold State.statusWord
  refine ⟨?_, ?_, ?_, ?_, ?_⟩
  · rw [BitVec.extractLsb'_append_eq_of_le (by decide)]
    exact BitVec.extractLsb'_append_eq_right
  · iterate 2 rw [BitVec.extractLsb'_append_eq_of_le (by decide)]
    exact BitVec.extractLsb'_append_eq_right
  · iterate 3 rw [BitVec.extractLsb'_append_eq_of_le (by decide)]
    exact BitVec.extractLsb'_append_eq_right
  · iterate 4 rw [BitVec.extractLsb'_append_eq_of_le (by decide)]
    exact BitVec.extractLsb'_append_eq_right
  · iterate 6 rw [BitVec.extractLsb'_append_eq_of_le (by decide)]
    exact BitVec.extractLsb'_append_eq_left

theorem State.statusWord_addrErr (s : State) : s.statusWord.getLsbD 16 = s.addrErr := by
  simp only [State.statusWord, BitVec.getLsbD_append]
  simp

theorem State.statusWord_wrIgnored (s : State) : s.statusWord.getLsbD 17 = s.wrIgnored := by
  simp only [State.statusWord, BitVec.getLsbD_append]
  simp

/-- Outside bits 16 and 17 STATUS does not depend on the sticky flags. -/
theorem State.statusWord_bit_congr {s t : State} {i : Nat} (hb : t.busy = s.busy) (he : t.err = s.err)
    (hc : t.hdrCause = s.hdrCause) (h16 : i ≠ 16) (h17 : i ≠ 17) :
    t.statusWord.getLsbD i = s.statusWord.getLsbD i := by
  simp only [State.statusWord, BitVec.getLsbD_append, hb, he, hc]
  -- one goal per field: those of the flags ask for i = 16 or i = 17, and in the others the two sides are the same
  split_ifs <;> grind

/-- The bits of STATUS that a write can clear (10_state R23). -/
theorem getLsbD_w1cMask : ∀ i < 32, (0x00030000#32).getLsbD i = (decide (i = 16) || decide (i = 17)) := by decide

theorem State.statusWord_writeStatus (s : State) (v : Word) :
    (s.writeStatus v).statusWord = s.statusWord &&& ~~~(v &&& 0x00030000#32) := by
  refine BitVec.eq_of_getLsbD_eq fun i hi => ?_
  rw [BitVec.getLsbD_and, BitVec.getLsbD_not, BitVec.getLsbD_and, getLsbD_w1cMask i hi]
  by_cases h16 : i = 16
  · subst h16
    rw [State.statusWord_addrErr, State.statusWord_addrErr, State.writeStatus_addrErr]
    simp
  by_cases h17 : i = 17
  · subst h17
    rw [State.statusWord_wrIgnored, State.statusWord_wrIgnored, State.writeStatus_wrIgnored]
    simp
  rw [State.statusWord_bit_congr (t := s.writeStatus v) (s := s) rfl rfl rfl h16 h17]
  simp [hi, h16, h17]

/-- Settles O42: the fields one by one, and a write to STATUS bit by bit. -/
theorem statusRegister : Obligations.StatusRegister := by
  unfold Obligations.StatusRegister
  intro n s
  obtain ⟨hlow, herr, hcause, hmid, hhigh⟩ := s.statusWord_fields
  refine ⟨⟨s.statusWord_busy, hlow, herr, hcause, hmid, s.statusWord_addrErr, s.statusWord_wrIgnored, hhigh⟩,
    fun v => ?_, rfl⟩
  exact ⟨s.writeStatus v, s.access_write_reg n .status v, rfl, s.statusWord_writeStatus v⟩

theorem F32Mode.ofBit_eq_native {b : Bool} : F32Mode.ofBit b = .native ↔ b = true := by cases b <;> decide

theorem LenPolicy.ofBit_eq_strict {b : Bool} : LenPolicy.ofBit b = .strict ↔ b = true := by cases b <;> decide

/-- CFG reads back the two bits written, the others as 0 (10_state R29). -/
theorem State.cfgWord_writeCfg (s : State) (v : Word) : (s.writeCfg v).cfgWord = v &&& 0x00000003#32 := by
  have hmask : ∀ i < 32, (0x00000003#32).getLsbD i = (decide (i = 0) || decide (i = 1)) := by decide
  refine BitVec.eq_of_getLsbD_eq fun i hi => ?_
  simp only [State.cfgWord, BitVec.getLsbD_append, BitVec.getLsbD_and, hmask i hi, State.writeCfg_f32Mode,
    State.writeCfg_lenPolicy, F32Mode.bit_ofBit, LenPolicy.bit_ofBit]
  obtain rfl | rfl | h : i = 0 ∨ i = 1 ∨ 2 ≤ i := by omega
  · simp
  · simp
  · simp [show ¬ i < 1 by omega, show i ≠ 0 by omega, show i ≠ 1 by omega, show i - 1 ≠ 0 by omega]

/-- Settles O44: CFG and RAW_LEN are behind the busy gate, and DEC_IN is not. -/
theorem configurationWrites : Obligations.ConfigurationWrites := by
  unfold Obligations.ConfigurationWrites
  intro n s v
  have hcfg := s.access_write_reg n .cfg v
  have hraw := s.access_write_reg n .rawLen v
  have hdec := s.access_write_reg n .decIn v
  simp only [Reg.addr, State.writeReg] at hcfg hraw hdec
  refine ⟨fun hidle => ?_, fun hidle => ?_, fun hbusy => ?_, hdec⟩
  · rw [State.whenIdle_idle hidle] at hcfg
    exact ⟨_, hcfg, rfl, F32Mode.ofBit_eq_native, LenPolicy.ofBit_eq_strict, s.cfgWord_writeCfg v⟩
  · rw [State.whenIdle_idle hidle] at hraw
    exact hraw
  · rw [State.whenIdle_busy hbusy] at hcfg hraw
    exact ⟨hcfg, hraw⟩

end Sys2Proof.Machine

/-! ### Accesses through the address map (20_memory R60 to R62) -/

namespace Sys2Proof.Machine

/-- A 32-bit read of a mapped address reads the place the address selects. -/
theorem State.access_read_of_locate (s : State) {n : Nat} {a : Addr} {l : Loc} (h : locate n a = some l) :
    s.access n (.read a 32) = .next (s.readLoc n l) := by
  simp [State.access, State.busRead, h]

/-- A 32-bit write to a mapped address writes the place the address selects. -/
theorem State.access_write_of_locate (s : State) {n : Nat} {a : Addr} {l : Loc} (v : Word) (h : locate n a = some l) :
    s.access n (.write a 32 v) = s.writeLoc n v l := by
  simp [State.access, State.busWrite, h]

/-- Word `k` of IBUF stands at 0x100000 + 4k (20_memory R62). -/
theorem locate_ibufWord {n k : Nat} (hn : ibufBytesLegal n = true) (hk : 4 * k < n) :
    locate n (BitVec.ofNat 24 (0x100000 + 4 * k)) = some (.ibufWord k) := by
  obtain ⟨_, _, hmax⟩ := ibufBytesLegal_iff.mp hn
  have ha : (BitVec.ofNat 24 (0x100000 + 4 * k)).toNat = 0x100000 + 4 * k :=
    Nat.mod_eq_of_lt (by omega)
  rw [locate_ibuf (by omega) (by omega) (by omega) (by omega), ha]
  congr 2
  omega

/-- The low half of OBUF entry `j` stands at 0x200000 + 8j, and the high half 4 above (20_memory R62). -/
theorem locate_obufEntry {n j : Nat} (hn : ibufBytesLegal n = true) (hj : j < Config.obufSamples n) :
    locate n (BitVec.ofNat 24 (0x200000 + 8 * j)) = some (.obufLo j) ∧
      locate n (BitVec.ofNat 24 (0x200000 + 8 * j + 4)) = some (.obufHi j) := by
  obtain ⟨_, _, hmax⟩ := ibufBytesLegal_iff.mp hn
  have hfit : Config.obufSamples n < 262144 := by unfold Config.obufSamples; omega
  have hlo : (BitVec.ofNat 24 (0x200000 + 8 * j)).toNat = 0x200000 + 8 * j :=
    Nat.mod_eq_of_lt (by omega)
  have hhi : (BitVec.ofNat 24 (0x200000 + 8 * j + 4)).toNat = 0x200000 + 8 * j + 4 :=
    Nat.mod_eq_of_lt (by omega)
  constructor
  · rw [locate_obuf (by omega) (by omega) (by omega), if_pos (by omega), hlo]
    congr 2
    omega
  · rw [locate_obuf (by omega) (by omega) (by omega), if_neg (by omega), hhi]
    congr 2
    omega

/-- The unmapped ranges of the address map (20_memory R62). -/
theorem locate_unmapped {n : Nat} {a : Addr}
    (h : (0x40 ≤ a.toNat ∧ a.toNat < 0x100000) ∨ (0x100000 + n ≤ a.toNat ∧ a.toNat < 0x200000) ∨
      0x200000 + 8 * Config.obufSamples n ≤ a.toNat) : locate n a = none := by
  refine Option.eq_none_iff_forall_ne_some.mpr fun l hl => ?_
  obtain ⟨_, ⟨_, _⟩ | ⟨_, _, _, _⟩ | ⟨_, _, _⟩⟩ := locate_cases n a l hl <;> omega

/-! ### Reads: a reply, and nothing else of the unit (20_memory R62 to R65, R70) -/

/-- What a register holds, as a 32-bit read shows it with BUSY = 0 (20_memory R62). -/
def State.regValue (s : State) (n : Nat) : Reg → Word
  | .cmd => 0#32
  | .status => s.statusWord
  | .cfg => s.cfgWord
  | .rawLen => s.rawLen
  | .decIn => s.decIn
  | .decInfo => s.decInfo
  | .decMant => s.decMant
  | .decOutLo => s.decOutLo
  | .decOutHi => s.decOutHi
  | .hdrForm => s.hdrForm
  | .hdrDigits => s.hdrDigits
  | .hdrLength => s.hdrLength
  | .payloadOff => s.payloadOff
  | .payloadBytes => s.payloadBytes
  | .sampleCount => s.sampleCount
  | .ibufSize => BitVec.ofNat 32 n

/-- With BUSY = 0 a result is read as it is stored (10_state R35, 20_memory R65). -/
theorem State.replyResult_idle {s : State} (h : s.busy = false) (v : Word) : s.replyResult v = s.reply v := by
  simp [State.replyResult, h]

theorem State.readReg_idle {s : State} (h : s.busy = false) (n : Nat) (r : Reg) :
    s.readReg n r = s.reply (s.regValue n r) := by
  cases r with
  | hdrForm | hdrDigits | hdrLength | payloadOff | payloadBytes | sampleCount => exact State.replyResult_idle h _
  | cmd | status | cfg | rawLen | decIn | decInfo | decMant | decOutLo | decOutHi | ibufSize => rfl

/-- Settles O39: the table lists every register's address with its value, and each address selects its register. -/
theorem registerReads : Obligations.RegisterReads := by
  unfold Obligations.RegisterReads
  intro n s hidle a v hmem
  have htable : (a, v) ∈ [Reg.cmd, .status, .cfg, .rawLen, .decIn, .decInfo, .decMant, .decOutLo, .decOutHi, .hdrForm,
      .hdrDigits, .hdrLength, .payloadOff, .payloadBytes, .sampleCount, .ibufSize].map
        (fun r => (r.addr, s.regValue n r)) := hmem
  obtain ⟨r, _, hr⟩ := List.mem_map.mp htable
  cases hr
  rw [s.access_read_of_locate (locate_reg n r)]
  exact congrArg _ (State.readReg_idle hidle n r)

/-- Settles O41: each half's address selects that half, and with BUSY = 0 the reply is the stored value. -/
theorem obufWindow : Obligations.ObufWindow := by
  unfold Obligations.ObufWindow
  intro n s j hidle hn hj
  obtain ⟨hlo, hhi⟩ := locate_obufEntry hn hj
  rw [s.access_read_of_locate hlo, s.access_read_of_locate hhi]
  exact ⟨congrArg _ (State.replyResult_idle hidle _), congrArg _ (State.replyResult_idle hidle _)⟩

/-- A read that is admitted leaves ADDR_ERR alone (20_memory R64, R70). -/
theorem State.readLoc_addrErr (s : State) (n : Nat) (l : Loc) : (s.readLoc n l).addrErr = s.addrErr := by
  have hres (v : Word) : (s.replyResult v).addrErr = s.addrErr := by
    unfold State.replyResult
    split <;> rfl
  cases l with
  | reg r =>
    cases r with
    | hdrForm | hdrDigits | hdrLength | payloadOff | payloadBytes | sampleCount => exact hres _
    | cmd | status | cfg | rawLen | decIn | decInfo | decMant | decOutLo | decOutHi | ibufSize => rfl
  | ibufWord k => rfl
  | obufLo j | obufHi j => exact hres _

/-- A read of any size and place changes only ADDR_ERR and the model's records of reads (20_memory R70). -/
theorem State.busRead_frame (s : State) (n : Nat) (a : Addr) (size : Nat) :
    s.busRead n a size = { s with
      addrErr := (s.busRead n a size).addrErr
      replies := (s.busRead n a size).replies
      draws := (s.busRead n a size).draws } := by
  rcases s.busRead_cases n a size with h | ⟨v, h⟩ | ⟨_, h⟩ <;> rw [h] <;> rfl

/-! ### The IBUF window (20_memory R63) -/

/-- A word written to IBUF is read back (20_memory R63, R71). -/
@[simp] theorem ibufWord_putIbufWord (s : State) (k : Nat) (v : Word) : ibufWord (s.putIbufWord k v) k = v := by
  simp [ibufWord, ibufByte_putIbufWord, wordOfBytes_byteOfWord]

/-- Settles O40: the address selects word `k`, whose write the busy gate lets through with BUSY = 0 alone. -/
theorem ibufWindow : Obligations.IbufWindow := by
  unfold Obligations.IbufWindow
  intro n s k v hn hk
  have hloc := locate_ibufWord hn hk
  refine ⟨s.access_read_of_locate hloc, fun hbusy => ?_, fun hidle => ⟨s.putIbufWord k v, ?_, rfl, ?_, ?_, ?_⟩⟩
  · rw [s.access_write_of_locate v hloc]
    exact congrArg _ (State.whenIdle_busy hbusy _)
  · rw [s.access_write_of_locate v hloc]
    exact congrArg _ (State.whenIdle_idle hidle _)
  · intro b hb
    rw [ibufByte_putIbufWord, if_pos (by omega), Nat.add_sub_cancel_left]
    rfl
  · intro i hi
    rw [ibufByte_putIbufWord, if_neg (by omega)]
  · rw [State.access_read_of_locate _ hloc, State.readLoc, ibufWord_putIbufWord]
    rfl

/-! ### Accesses the bus does not admit (20_memory R64) -/

/-- A read of another size, or of an address that selects no place, is not admitted. -/
theorem State.access_read_not_admitted (s : State) {n : Nat} {a : Addr} {size : Nat}
    (h : size = 32 → locate n a = none) : s.access n (.read a size) = .next (s.setAddrErr.reply 0#32) := by
  by_cases hsize : size = 32
  · simp [State.access, State.busRead, h hsize]
  · simp [State.access, State.busRead, hsize]

/-- A write only sets ADDR_ERR when any place it could reach answers so: one of another size, or to an address that
selects no place, reaches none. -/
theorem State.access_write_setAddrErr (s : State) {n : Nat} {a : Addr} {size : Nat} {v : Word}
    (h : ∀ l, size = 32 → locate n a = some l → s.writeLoc n v l = .next s.setAddrErr) :
    s.access n (.write a size v) = .next s.setAddrErr := by
  by_cases hsize : size = 32
  · subst hsize
    cases hl : locate n a with
    | none => simp [State.access, State.busWrite, hl]
    | some l => rw [s.access_write_of_locate v hl, h l rfl hl]
  · simp [State.access, State.busWrite, hsize]

/-- The registers from DEC_INFO on are read-only (20_memory R62, R64). -/
theorem State.writeReg_readOnly (s : State) (n : Nat) (v : Word) {r : Reg} (h : 0x14 ≤ r.addr.toNat) :
    s.writeReg n v r = .next s.setAddrErr := by
  cases r with
  | cmd | status | cfg | rawLen | decIn => exact absurd h (by decide)
  | decInfo | decMant | decOutLo | decOutHi | hdrForm | hdrDigits | hdrLength | payloadOff | payloadBytes | sampleCount
  | ibufSize => rfl

/-- A write anywhere in a read-only register only sets ADDR_ERR (20_memory R64). -/
theorem State.access_write_readOnly (s : State) (n : Nat) {a : Addr} (size : Nat) (v : Word) (hlo : 0x14 ≤ a.toNat)
    (hhi : a.toNat < 0x40) : s.access n (.write a size v) = .next s.setAddrErr := by
  refine s.access_write_setAddrErr fun l _ hl => ?_
  obtain ⟨_, ⟨_, r, rfl, _⟩ | ⟨_, _⟩ | ⟨_, _⟩⟩ := locate_cases n a l hl
  · exact s.writeReg_readOnly n v (addr_of_locate_reg hl ▸ hlo)
  all_goals omega

/-- A write at or above the OBUF window only sets ADDR_ERR (20_memory R64). -/
theorem State.access_write_obuf (s : State) (n : Nat) {a : Addr} (size : Nat) (v : Word) (hlo : 0x200000 ≤ a.toNat) :
    s.access n (.write a size v) = .next s.setAddrErr := by
  refine s.access_write_setAddrErr fun l _ hl => ?_
  obtain ⟨_, ⟨_, _⟩ | ⟨_, _, _, _⟩ | ⟨_, _, ⟨_, rfl⟩ | ⟨_, rfl⟩⟩⟩ := locate_cases n a l hl
  · omega
  · omega
  · rfl
  · rfl

/-- While BUSY = 1 a write to a place behind the busy gate is discarded: CMD, CFG, RAW_LEN and the IBUF window
(40_command_interface R125). -/
theorem State.access_write_gated_busy {s : State} (hbusy : s.busy = true) {n : Nat} {a : Addr} (v : Word)
    (ha : a = 0x000000#24 ∨ a = 0x000008#24 ∨ a = 0x00000C#24 ∨
      (a.toNat % 4 = 0 ∧ 0x100000 ≤ a.toNat ∧ a.toNat < 0x100000 + n ∧ a.toNat < 0x200000)) :
    s.access n (.write a 32 v) = .next s.ignoreWrite := by
  rcases ha with rfl | rfl | rfl | ⟨h4, hlo, hhi, hmax⟩
  · refine (s.access_write_reg n .cmd v).trans ?_
    obtain ⟨_, h⟩ | ⟨hidle, _⟩ := s.writeCmd_cases n v
    · exact h
    · exact absurd (hidle.symm.trans hbusy) Bool.false_ne_true
  · exact (s.access_write_reg n .cfg v).trans (congrArg _ (State.whenIdle_busy hbusy _))
  · exact (s.access_write_reg n .rawLen v).trans (congrArg _ (State.whenIdle_busy hbusy _))
  · rw [s.access_write_of_locate v (locate_ibuf h4 hlo hhi hmax)]
    exact congrArg _ (State.whenIdle_busy hbusy _)

/-- Settles O38: the accesses of the first clause reach no place, and those of the next two no place that takes a write;
the last three are admitted. -/
theorem accessNotAdmitted : Obligations.AccessNotAdmitted := by
  unfold Obligations.AccessNotAdmitted
  intro n s a size v
  refine ⟨fun h => ?_, fun ⟨hlo, hhi⟩ => s.access_write_readOnly n size v hlo hhi,
    fun ⟨hlo, _⟩ => s.access_write_obuf n size v hlo, s.access_read_of_locate (locate_reg n .cmd),
    fun t ht hflag => ?_, fun hbusy ha t ht => ?_⟩
  · have hnone : size = 32 → locate n a = none := by
      intro hsize
      rcases h with hne | hmis | hun
      · exact absurd hsize hne
      · exact locate_misaligned hmis
      · exact locate_unmapped hun
    refine ⟨s.access_read_not_admitted hnone, s.access_write_setAddrErr fun l hsize hl => ?_⟩
    rw [hnone hsize] at hl
    cases hl
  · cases (s.access_write_reg n .status v).symm.trans ht
    exact (Bool.and_eq_true _ _ ▸ hflag).1
  · cases (State.access_write_gated_busy hbusy v ha).symm.trans ht
    rfl

/-! ### Repeating a write (20_memory R70) -/

section
variable {α : Type}

theorem Memory.put_cons_lt {a k : Nat} (h : a < k) (v w : α) (rest : List (Nat × α)) :
    Memory.put ((k, w) :: rest) a v = (a, v) :: (k, w) :: rest := by simp [Memory.put, h]

theorem Memory.put_cons_same (a : Nat) (v w : α) (rest : List (Nat × α)) :
    Memory.put ((a, w) :: rest) a v = (a, v) :: rest := by simp [Memory.put]

theorem Memory.put_cons_gt {a k : Nat} (h : k < a) (v w : α) (rest : List (Nat × α)) :
    Memory.put ((k, w) :: rest) a v = (k, w) :: Memory.put rest a v := by
  rw [Memory.put, if_neg (by omega), if_neg (by omega)]

/-- Storing the same value again changes nothing, in a memory of any form. -/
theorem Memory.put_put_same (m : List (Nat × α)) (a : Nat) (v : α) :
    Memory.put (Memory.put m a v) a v = Memory.put m a v := by
  induction m with
  | nil => exact Memory.put_cons_same a v v []
  | cons c rest ih =>
    obtain ⟨k, w⟩ := c
    rcases Nat.lt_trichotomy k a with h | rfl | h
    · simp only [Memory.put_cons_gt h, ih]
    · simp only [Memory.put_cons_same]
    · simp only [Memory.put_cons_lt h, Memory.put_cons_same]

/-- Stores at two keys commute, in a memory of any form. -/
theorem Memory.put_comm (m : List (Nat × α)) {a b : Nat} (v w : α) (hab : a < b) :
    Memory.put (Memory.put m a v) b w = Memory.put (Memory.put m b w) a v := by
  induction m with
  | nil => rw [Memory.put, Memory.put, Memory.put_cons_gt hab, Memory.put_cons_lt hab, Memory.put]
  | cons c rest ih =>
    obtain ⟨k, x⟩ := c
    rcases Nat.lt_trichotomy k a with hk | rfl | hk
    · simp only [Memory.put_cons_gt hk, Memory.put_cons_gt (hk.trans hab), ih]
    · simp only [Memory.put_cons_same, Memory.put_cons_gt hab]
    · rcases Nat.lt_trichotomy k b with hkb | rfl | hkb
      · simp only [Memory.put_cons_lt hk, Memory.put_cons_gt hab, Memory.put_cons_gt hkb]
      · simp only [Memory.put_cons_lt hk, Memory.put_cons_gt hab, Memory.put_cons_same]
      · simp only [Memory.put_cons_lt hk, Memory.put_cons_gt hab, Memory.put_cons_lt hkb, Memory.put_cons_lt hab]

/-- A store before a block commutes with the block's store. -/
theorem Memory.putAll_put (m : List (Nat × α)) {a b : Nat} (v : α) (vs : List α) (hab : a < b) :
    Memory.putAll (Memory.put m a v) b vs = Memory.put (Memory.putAll m b vs) a v := by
  induction vs generalizing m b with
  | nil => rfl
  | cons w vs ih => rw [Memory.putAll, Memory.put_comm m v w hab, ih _ (by omega), Memory.putAll]

/-- Storing the same block again changes nothing, in a memory of any form. -/
theorem Memory.putAll_putAll_same (m : List (Nat × α)) (a : Nat) (vs : List α) :
    Memory.putAll (Memory.putAll m a vs) a vs = Memory.putAll m a vs := by
  induction vs generalizing m a with
  | nil => rfl
  | cons v vs ih =>
    have hlt : a < a + 1 := Nat.lt_succ_self a
    simp only [Memory.putAll]
    rw [Memory.putAll_put m v vs hlt, Memory.put_put_same, Memory.putAll_put _ v vs hlt, ih]

end

theorem State.putIbufWord_twice (s : State) (k : Nat) (v : Word) :
    (s.putIbufWord k v).putIbufWord k v = s.putIbufWord k v := by
  simp [State.putIbufWord, Memory.putAll_putAll_same]

theorem State.writeStatus_twice (s : State) (v : Word) : (s.writeStatus v).writeStatus v = s.writeStatus v := by
  simp [State.writeStatus]

/-- Behind the busy gate, an update that keeps BUSY can be repeated if it can be without the gate. -/
theorem State.whenIdle_twice (s : State) {f : State → State} (hbusy : (f s).busy = s.busy) (htwice : f (f s) = f s) :
    (s.whenIdle f).whenIdle f = s.whenIdle f := by
  rcases s.whenIdle_cases f with ⟨hb, h⟩ | ⟨hb, h⟩ <;> rw [h]
  · exact State.whenIdle_busy (s := s.ignoreWrite) hb f
  · rw [State.whenIdle_idle (hbusy.trans hb), htwice]

/-- A write to a place other than CMD leaves a state in which the same write changes nothing (20_memory R70). -/
theorem State.writeLoc_twice {s t : State} {n : Nat} {v : Word} {l : Loc} (hl : l ≠ .reg .cmd)
    (h : s.writeLoc n v l = .next t) : t.writeLoc n v l = .next t := by
  cases l with
  | reg r =>
    cases r with
    | cmd => exact absurd rfl hl
    | status => cases h; exact congrArg _ (s.writeStatus_twice v)
    | cfg => cases h; exact congrArg _ (s.whenIdle_twice rfl rfl)
    | rawLen => cases h; exact congrArg _ (s.whenIdle_twice rfl rfl)
    | decIn | decInfo | decMant | decOutLo | decOutHi | hdrForm | hdrDigits | hdrLength | payloadOff | payloadBytes
    | sampleCount | ibufSize => cases h; rfl
  | ibufWord k => cases h; exact congrArg _ (s.whenIdle_twice rfl (s.putIbufWord_twice k v))
  | obufLo j | obufHi j => cases h; rfl

/-- Settles O45: the frame of reads, and writeLoc_twice for the writes that reach a place; a write that reaches none sets
ADDR_ERR, once or twice. -/
theorem accessesAreIdempotent : Obligations.AccessesAreIdempotent := by
  unfold Obligations.AccessesAreIdempotent
  intro n s a size v
  refine ⟨⟨s.busRead n a size, rfl, s.busRead_frame n a size, fun hmapped hsize => ?_⟩, fun hcmd t ht => ?_⟩
  · subst hsize
    obtain ⟨l, hl⟩ := Option.ne_none_iff_exists'.mp hmapped
    have hread : s.busRead n a 32 = s.readLoc n l := Host.Outcome.next.inj (s.access_read_of_locate hl)
    rw [hread, s.readLoc_addrErr]
  · by_cases hreach : ∃ l, size = 32 ∧ locate n a = some l
    · obtain ⟨l, rfl, hl⟩ := hreach
      have hother : l ≠ .reg .cmd := fun h => hcmd ⟨rfl, addr_of_locate_reg (h ▸ hl)⟩
      rw [s.access_write_of_locate v hl] at ht
      rw [t.access_write_of_locate v hl]
      exact State.writeLoc_twice hother ht
    · have hnone (u : State) : u.access n (.write a size v) = .next u.setAddrErr :=
        u.access_write_setAddrErr fun l hsize hl => absurd ⟨l, hsize, hl⟩ hreach
      cases (hnone s).symm.trans ht
      exact hnone s.setAddrErr

end Sys2Proof.Machine

/-! ### Commands at a CMD write (20_memory R76, R79; 40_command_interface R120) -/

namespace Sys2Proof.Machine

/-- A write to CMD of a word that decodes to a command runs the command (40_command_interface R120). -/
theorem State.access_write_cmd (s : State) (n : Nat) {v : Word} {i : Instr} (h : Sys2Proof.decode v = .ok i) :
    s.access n (.write 0x000000#24 32 v) = execOf n i s := by
  refine (s.access_write_reg n .cmd v).trans ?_
  simp [State.writeReg, State.writeCmd, h]

/-- When the host moves next, a step is the next operation of its script (00_scope R8). -/
theorem State.stepWith_host {s : State} {p : Params} {op : HostOp} {rest : List HostOp}
    (hagent : s.nextAgent p.schedule = .host) (hs : s.script = op :: rest) :
    s.stepWith p = (s.advance.setScript rest).hostOp p.ibufBytes op := by
  simp [State.stepWith, hagent, State.hostTurn, hs]

/-- The step at a CMD write is the command its word decodes to, for all arguments. -/
theorem State.stepWith_cmdWrite {s : State} {p : Params} {rest : List HostOp} {v : Word} {i : Instr}
    (hagent : s.nextAgent p.schedule = .host) (hs : s.script = .access (.write 0x000000#24 32 v) :: rest)
    (hd : Sys2Proof.decode v = .ok i) : s.stepWith p = execOf p.ibufBytes i (s.advance.setScript rest) :=
  (State.stepWith_host hagent hs).trans (State.access_write_cmd _ _ hd)

/-- Settles O5: stepWith_cmdWrite for the instance and for all arguments. -/
theorem stepRunsDecodedCommand : Obligations.StepRunsDecodedCommand := by
  unfold Obligations.StepRunsDecodedCommand
  intro s rest v i hs hd
  refine ⟨fun hagent => ?_, fun p hagent => State.stepWith_cmdWrite hagent hs hd, step_eq s, exec_eq_execOf i s⟩
  rw [step_eq, exec_eq_execOf]
  exact State.stepWith_cmdWrite (p := Config.params) hagent hs hd

/-- A granted access comes next, whatever the schedule (log 9). -/
theorem State.nextAgent_granted {s : State} (h : s.granted = true) (schedule : Nat → Agent) :
    s.nextAgent schedule = .host := by simp [State.nextAgent, State.contended, h]

/-- A word the table reads as a command decodes to it. -/
theorem decode_of_decodeTableWord {nbits w : Nat} {i : Instr} (h : decodeTableWord nbits w = some i) :
    Sys2Proof.decode (tableWord nbits w) = .ok i := by
  unfold decodeTableWord at h
  split at h
  · rename_i hd
    rw [hd, Option.some.inj h]
  · cases h

/-- Putting a granted command word at the head of the script and taking it off again leaves only the grant used up. -/
theorem State.advance_withFetchWord (s : State) (nbits w : Nat) :
    (s.withFetchWord nbits w).advance.setScript s.script = { s with granted := false } := by
  simp [State.withFetchWord, State.withCmdWrite, State.advance, State.contended, State.setScript]

/-- The step after withFetchWord is the command, for all arguments (log 9). -/
theorem State.stepWith_withFetchWord (s : State) (p : Params) {nbits w : Nat} {i : Instr}
    (h : decodeTableWord nbits w = some i) :
    (s.withFetchWord nbits w).stepWith p = execOf p.ibufBytes i { s with granted := false } := by
  rw [← s.advance_withFetchWord nbits w]
  exact State.stepWith_cmdWrite (State.nextAgent_granted rfl _) rfl (decode_of_decodeTableWord h)

/-- Settles O6: the granted write is the next step, and the instance is one choice of the arguments. -/
theorem fetchWordRunsNext : Obligations.FetchWordRunsNext := by
  unfold Obligations.FetchWordRunsNext
  intro s nbits w i h
  refine ⟨?_, fun p => s.stepWith_withFetchWord p h⟩
  rw [step_eq, exec_eq_execOf]
  exact s.stepWith_withFetchWord Config.params h

/-- A PARSE taken with BUSY = 0 and RAW_LEN in range fixes the job and sets BUSY (40_command_interface R123). -/
theorem execOf_parse_accepted {s : State} {n : Nat} (hidle : s.busy = false) (hle : s.rawLen.toNat ≤ n) :
    execOf n .parse s = .next { s with fsm := .parsing (captureJob s) } := by
  have haccept : s.acceptParse n = s.setFsm (.parsing (captureJob s)) := if_neg (Nat.not_lt.mpr hle)
  exact congrArg _ ((State.whenIdle_idle hidle _).trans haccept)

/-- Settles O18: the job is captureJob, which reads only what the two units agree on. -/
theorem bytesPastRawLenIgnored : Obligations.BytesPastRawLenIgnored := by
  unfold Obligations.BytesPastRawLenIgnored
  intro n s₁ s₂ hidle₁ hidle₂ hraw hmode hpolicy hle hbytes
  refine ⟨captureJob s₁, execOf_parse_accepted hidle₁ hle, ?_⟩
  rw [captureJob_congr hraw hmode hpolicy hbytes]
  exact execOf_parse_accepted hidle₂ (hraw ▸ hle)

end Sys2Proof.Machine

/-! ### The command word (30_encoding R98 to R100) -/

namespace Sys2Proof.Machine

/-- The word of a command decodes to the command (30_encoding R99). -/
@[simp] theorem decode_encode (i : Instr) : Sys2Proof.decode (encode i) = .ok i := by cases i <;> decide

theorem decode_eq_ok_iff {v : Word} {i : Instr} : Sys2Proof.decode v = .ok i ↔ v = encode i :=
  ⟨eq_encode_of_decode, fun h => h ▸ decode_encode i⟩

/-- Settles O1: each direction holds of every command. -/
theorem decodeEncodeAgree : Obligations.DecodeEncodeAgree := by
  unfold Obligations.DecodeEncodeAgree
  exact fun _ _ => decode_eq_ok_iff

/-- Settles O2: the three words are those of the three commands, so no other word decodes to a command. -/
theorem opcodeMapIsTotal : Obligations.OpcodeMapIsTotal := by
  unfold Obligations.OpcodeMapIsTotal
  intro v
  refine ⟨fun h => h ▸ decode_encode .nop, fun h => h ▸ decode_encode .decode, fun h => h ▸ decode_encode .parse,
    fun hnop hdecode hparse => ?_⟩
  cases hd : Sys2Proof.decode v with
  | error e => exact ⟨e, rfl⟩
  | ok i =>
    have hv := eq_encode_of_decode hd
    cases i with
    | nop => exact absurd hv hnop
    | decode => exact absurd hv hdecode
    | parse => exact absurd hv hparse

/-- A word whose MBZ is not zero is rejected for it, whatever its OPCODE (30_encoding R100). -/
theorem decode_mbzNonzero {v : Word} (h : (splitCmd v).mbz ≠ 0#24) :
    Sys2Proof.decode v = .error (.mbzNonzero (splitCmd v).mbz) := if_pos h

/-- Settles O3: three words are those of commands, and of the others one has MBZ zero. -/
theorem commandWordsDecode : Obligations.CommandWordsDecode := by
  unfold Obligations.CommandWordsDecode
  exact ⟨decode_encode .nop, decode_encode .decode, decode_encode .parse, by decide, decode_mbzNonzero (by decide),
    decode_mbzNonzero (by decide)⟩

end Sys2Proof.Machine

/-! ### The header and the framing grammar (30_encoding R94 to R96) -/

namespace Sys2Proof.Machine

/-- The parentheses are no digits, so a count part has one form (30_encoding R94). -/
theorem ne_paren_of_isDigit {c : Byte} (h : isDigit c = true) : c ≠ 0x28#8 ∧ c ≠ 0x29#8 := by
  constructor <;> rintro rfl <;> cases h

theorem allDigits_cons {c : Byte} {ds : List Byte} : allDigits (c :: ds) ↔ isDigit c = true ∧ allDigits ds :=
  List.forall_mem_cons

/-- Digits are read as a length part, whatever follows (42_block_framer R186). -/
theorem readLength_digits {ds : List Byte} (hds : allDigits ds) (rest : List Byte) (len : Nat) :
    readLength (ds ++ rest) ds.length len = .ok (ds.foldl foldDigit len, rest) := by
  induction ds generalizing len with
  | nil => exact readLength_zero rest len
  | cons c ds ih =>
    obtain ⟨hc, hds⟩ := allDigits_cons.mp hds
    simp [readLength, hc, ih hds]

/-- Digits before a `)` are scanned as a count part, once there is one (42_block_framer R184). -/
theorem scanCount_digits {ds : List Byte} (hds : allDigits ds) (after : List Byte) {i : Nat} (dc : Nat) (hi : 2 ≤ i)
    (hne : i = 2 → ds ≠ []) :
    scanCount (ds ++ 0x29#8 :: after) i dc = .ok (ds.foldl foldDigit dc, i + ds.length + 1, after) := by
  induction ds generalizing i dc with
  | nil => simpa [scanCount] using hne
  | cons c ds ih =>
    obtain ⟨hc, hds⟩ := allDigits_cons.mp hds
    have hscan := ih hds (foldDigit dc c) (show 2 ≤ i + 1 by omega) (by omega)
    simp only [List.cons_append, scanCount, if_neg (ne_paren_of_isDigit hc).2, hc, if_true, hscan, List.foldl_cons,
      List.length_cons]
    congr 3
    omega

/-- A header is finished exactly by a length part of `dc` digits (42_block_framer R186, R190). -/
theorem finishHeader_ok_iff {form : HdrForm} {dc p : Nat} {bs payload : List Byte} {h : Header} :
    finishHeader form dc p bs = .ok (h, payload) ↔
      ∃ lens, bs = lens ++ payload ∧ lens.length = dc ∧ allDigits lens ∧ h = ⟨form, dc, numeral lens, p + dc⟩ := by
  constructor
  · intro hf
    rcases finishHeader_cases form dc p bs with ⟨c, _, he⟩ | ⟨len, payload', hr, hok⟩
    · rw [hf] at he; cases he
    · rw [hf] at hok
      cases hok
      obtain ⟨lens, hbs, hlen, hall, rfl⟩ := readLength_ok hr
      exact ⟨lens, hbs, hlen, hall, rfl⟩
  · rintro ⟨lens, rfl, rfl, hall, rfl⟩
    simp [finishHeader, readLength_digits hall, numeral]

/-- After the marker and a count part, the header is what the length part makes it (42_block_framer R183, R184). -/
theorem parseHeader_countPart {form : HdrForm} {dc : Nat} {count : List Byte} (h : CountPart form dc count)
    (after : List Byte) :
    parseHeader (0x23#8 :: count ++ after) = finishHeader form dc (1 + count.length) after := by
  cases form with
  | plain =>
    obtain ⟨c, rfl, hc, rfl⟩ := h
    simp [parseHeader, ne_paren_of_isDigit hc, hc]
  | paren =>
    obtain ⟨ds, rfl, hne, hds, rfl⟩ := h
    have hscan := scanCount_digits hds after 0 le_rfl fun _ => hne
    have hp : 2 + ds.length + 1 = 1 + (0x28#8 :: ds ++ [0x29#8]).length := by simp; omega
    rw [hp] at hscan
    simp [parseHeader, hscan, numeral]

/-- A header that parses has a count part after the marker (42_block_framer R182 to R184). -/
theorem countPart_of_parseHeader {bs payload : List Byte} {h : Header} (hp : parseHeader bs = .ok (h, payload)) :
    ∃ form dc count after, bs = 0x23#8 :: count ++ after ∧ CountPart form dc count := by
  rcases parseHeader_cases bs with ⟨_, he⟩ | ⟨_, he⟩ | ⟨c, rest, rfl, _, ⟨_, he⟩ | ⟨hc, _⟩⟩ |
      ⟨rest, rfl, ⟨e, _, he⟩ | ⟨dc, p, after, hs, _⟩⟩
  · rw [hp] at he; cases he
  · rw [hp] at he; cases he
  · rw [hp] at he; cases he
  · exact ⟨.plain, digitVal c, [c], rest, rfl, c, rfl, hc, rfl⟩
  · rw [hp] at he; cases he
  · obtain ⟨ds, rfl, hds, rfl, _, hne⟩ := scanCount_ok hs
    exact ⟨.paren, numeral ds, 0x28#8 :: ds ++ [0x29#8], after, by simp, ds, rfl, hne rfl, hds, rfl⟩

/-- Settles O19: a header that parses has a count part, after which it is its length part that decides on both sides. -/
theorem headerMatchesGrammar : Obligations.HeaderMatchesGrammar := by
  unfold Obligations.HeaderMatchesGrammar
  intro bytes rest h
  constructor
  · intro hp
    obtain ⟨form, dc, count, after, rfl, hcount⟩ := countPart_of_parseHeader hp
    rw [parseHeader_countPart hcount, finishHeader_ok_iff] at hp
    obtain ⟨lens, rfl, hlen, hall, rfl⟩ := hp
    exact ⟨count, lens, by simp, hcount, hlen, hall, rfl, by simp [hlen]⟩
  · rintro ⟨count, lens, rfl, hcount, hlen, hall, hval, hoff⟩
    rw [hlen] at hoff
    rw [List.append_assoc, parseHeader_countPart hcount, finishHeader_ok_iff]
    exact ⟨lens, rfl, hlen, hall, by rw [← hval, ← hoff]⟩

end Sys2Proof.Machine

/-! ### The fields of a binary32 word (30_encoding R91) -/

namespace Sys2Proof.Machine

/-- Bit `i` of an assembled word is a bit of byte `i / 8` (30_encoding R90). -/
theorem getLsbD_wordOfBytes (b0 b1 b2 b3 : Byte) (i : Nat) :
    (wordOfBytes b0 b1 b2 b3).getLsbD i =
      if i < 8 then b0.getLsbD i else if i < 16 then b1.getLsbD (i - 8)
      else if i < 24 then b2.getLsbD (i - 16) else b3.getLsbD (i - 24) := by
  simp only [wordOfBytes, BitVec.getLsbD_append]
  grind

/-- S is bit 7 of byte 3 (30_encoding R91). -/
theorem f32Sign_wordOfBytes (b0 b1 b2 b3 : Byte) : f32Sign (wordOfBytes b0 b1 b2 b3) = b3.getLsbD 7 :=
  getLsbD_wordOfBytes b0 b1 b2 b3 31

/-- E is the low seven bits of byte 3 above the top bit of byte 2 (30_encoding R91). -/
theorem f32Exp_wordOfBytes (b0 b1 b2 b3 : Byte) :
    f32Exp (wordOfBytes b0 b1 b2 b3) =
      ((b3.extractLsb' 0 7).setWidth 8 <<< 1) ||| (b2.extractLsb' 7 1).setWidth 8 := by
  ext i hi
  simp only [f32Exp, BitVec.getElem_extractLsb', getLsbD_wordOfBytes, BitVec.getElem_or, BitVec.getElem_shiftLeft,
    BitVec.getElem_setWidth, BitVec.getLsbD_extractLsb']
  obtain rfl | hpos := Nat.eq_zero_or_pos i
  · simp
  · rw [if_neg (by omega), if_neg (by omega), if_neg (by omega)]
    simp [show 23 + i - 24 = i - 1 by omega, show ¬i < 1 by omega, show i - 1 < 7 by omega]

/-- M is the low seven bits of byte 2 above bytes 1 and 0 (30_encoding R91). -/
theorem f32Mant_wordOfBytes (b0 b1 b2 b3 : Byte) :
    f32Mant (wordOfBytes b0 b1 b2 b3) =
      ((b2.extractLsb' 0 7).setWidth 23 <<< 16) ||| (b1.setWidth 23 <<< 8) ||| b0.setWidth 23 := by
  ext i hi
  simp only [f32Mant, BitVec.getElem_extractLsb', getLsbD_wordOfBytes, BitVec.getElem_or, BitVec.getElem_shiftLeft,
    BitVec.getElem_setWidth, BitVec.getLsbD_extractLsb', Nat.zero_add]
  by_cases h0 : i < 8
  · simp [h0, show i < 16 by omega]
  have hb0 : b0.getLsbD i = false := BitVec.getLsbD_of_ge b0 i (by omega)
  by_cases h1 : i < 16
  · simp [h0, h1, hb0]
  · have hb1 : b1.getLsbD (i - 8) = false := BitVec.getLsbD_of_ge b1 (i - 8) (by omega)
    simp [h0, h1, hb0, hb1, show i < 24 by omega, show i - 16 < 7 by omega]

/-- A binary32 word is its three fields (30_encoding R91). -/
theorem f32Fields_append (w : Word) : BitVec.ofBool (f32Sign w) ++ f32Exp w ++ f32Mant w = w := by
  refine BitVec.eq_of_getLsbD_eq fun i hi => ?_
  simp only [f32Sign, f32Exp, f32Mant, BitVec.getLsbD_append, BitVec.getLsbD_extractLsb', BitVec.getLsbD_ofBool,
    Nat.zero_add]
  split_ifs with hmant hexp
  · simp [hmant]
  · simp [hexp, Nat.add_sub_cancel' (Nat.le_of_not_lt hmant)]
  · obtain rfl : i = 31 := by omega
    simp

/-- Settles O30: the bytes are those of wordOfBytes, and each field has its own lemma. -/
theorem fieldsOfBinary32 : Obligations.FieldsOfBinary32 := by
  unfold Obligations.FieldsOfBinary32
  exact fun b0 b1 b2 b3 => ⟨f32Sign_wordOfBytes b0 b1 b2 b3, f32Exp_wordOfBytes b0 b1 b2 b3,
    f32Mant_wordOfBytes b0 b1 b2 b3, f32Fields_append _⟩

end Sys2Proof.Machine

/-! ### WAIT_IDLE and LOAD (30_encoding R103) -/

namespace Sys2Proof.Machine

/-- A turn that reads BUSY = 1 puts the loop back on the script (30_encoding R103). -/
theorem State.pollStatus_busy {s : State} (h : s.busy = true) :
    s.pollStatus = (s.reply s.statusWord).setScript (.waitIdle :: s.script) := if_pos h

/-- A turn that reads BUSY = 0 ends the loop (30_encoding R103). -/
theorem State.pollStatus_idle {s : State} (h : ¬s.busy = true) : s.pollStatus = s.reply s.statusWord := if_neg h

/-- STATUS shows nothing of the host's side of the state (10_state R23). -/
theorem State.statusWord_advance_setScript (s : State) (ops : List HostOp) :
    (s.advance.setScript ops).statusWord = s.statusWord := rfl

/-- Settles O58: bit 0 of STATUS is BUSY, by which the poll goes on. -/
theorem waitIdlePolls : Obligations.WaitIdlePolls := by
  unfold Obligations.WaitIdlePolls
  intro p s rest hagent hs
  rw [State.stepWith_host hagent hs, State.statusWord_busy]
  refine congrArg Host.Outcome.next ?_
  by_cases hbusy : s.busy = true
  · rw [if_pos hbusy, State.pollStatus_busy (s := s.advance.setScript rest) hbusy,
      State.statusWord_advance_setScript]
    rfl
  · rw [if_neg hbusy, State.pollStatus_idle (s := s.advance.setScript rest) hbusy,
      State.statusWord_advance_setScript]
    rfl

/-- A run goes on from where its first steps lead. -/
theorem run_add {M : Host.Core} {s t : M.State} {j : Nat} (h : M.run j s = .next t) (k : Nat) :
    M.run (j + k) s = M.run k t := by
  induction j generalizing s with
  | zero => cases h; rw [Nat.zero_add]
  | succ j ih =>
    rw [Nat.add_right_comm]
    rw [Host.Core.run] at h ⊢
    cases hstep : M.step s with
    | next u => rw [hstep] at h; exact ih h
    | fault r => rw [hstep] at h; cases h
    | refused r => rw [hstep] at h; cases h

/-- A run of one step more begins with that step. -/
theorem run_succ_of_stepWith {p : Params} {s t : State} (h : s.stepWith p = .next t) (k : Nat) :
    (coreOf p).run (k + 1) s = (coreOf p).run k t := by
  simp [Host.Core.run, coreOf, h]

/-- LOAD's writes while bytes are left (30_encoding R103). -/
theorem loadWords_succ (fuel k : Nat) {bs : List Byte} (h : bs ≠ []) :
    loadWords (fuel + 1) k bs = wrOp (.ibuf (4 * k)) (packWord bs) :: loadWords fuel (k + 1) (bs.drop 4) := by
  cases bs with
  | nil => exact absurd rfl h
  | cons b bs => rfl

/-- The word LOAD writes holds the first four bytes left, 0x00 for those there are none of (30_encoding R103). -/
theorem byteOfWord_packWord (bs : List Byte) {b : Nat} (hb : b < 4) : byteOfWord (packWord bs) b = bs.getD b 0#8 := by
  obtain ⟨h0, h1, h2, h3⟩ := byteOfWord_wordOfBytes (bs.getD 0 0#8) (bs.getD 1 0#8) (bs.getD 2 0#8) (bs.getD 3 0#8)
  interval_cases b
  · exact h0
  · exact h1
  · exact h2
  · exact h3

/-- On an idle unit a script's write of an IBUF word takes effect in the next step (20_memory R63). -/
theorem State.stepWith_wrIbuf {s : State} {p : Params} {k : Nat} {v : Word} {rest : List HostOp}
    (hidle : s.busy = false) (hp : p.legal = true) (hk : 4 * k < p.ibufBytes)
    (hs : s.script = wrOp (.ibuf (4 * k)) v :: rest) :
    s.stepWith p = .next ((s.advance.setScript rest).putIbufWord k v) := by
  have haddr : (Target.ibuf (4 * k)).addr = BitVec.ofNat 24 (0x100000 + 4 * k) := by
    rw [Target.addr, Nat.mul_div_cancel_left k (by decide)]
  rw [State.stepWith_host (State.nextAgent_idle hidle _) hs, wrOp, haddr]
  refine (State.access_write_of_locate _ v (locate_ibufWord hp hk)).trans ?_
  exact congrArg Host.Outcome.next (State.whenIdle_idle (s := s.advance.setScript rest) hidle _)

/-- On an idle unit a script's write of RAW_LEN takes effect in the next step (10_state R30). -/
theorem State.stepWith_wrRawLen {s : State} {p : Params} {v : Word} {rest : List HostOp} (hidle : s.busy = false)
    (hs : s.script = wrOp (.reg .rawLen) v :: rest) : s.stepWith p = .next ((s.advance.setScript rest).setRawLen v) := by
  rw [State.stepWith_host (State.nextAgent_idle hidle _) hs]
  refine (State.access_write_reg _ p.ibufBytes .rawLen v).trans ?_
  exact congrArg Host.Outcome.next (State.whenIdle_idle (s := s.advance.setScript rest) hidle _)

/-- LOAD's writes from word `k` on, one step each: the bytes stand from byte 4k on, and those below are left alone. -/
theorem run_loadWords {p : Params} (hp : p.legal = true) (rest : List HostOp) (fuel k : Nat) (bs : List Byte)
    (hfuel : (bs.length + 3) / 4 = fuel) (hfit : 4 * k + bs.length ≤ p.ibufBytes) {s : State} (hidle : s.busy = false)
    (hs : s.script = loadWords fuel k bs ++ rest) :
    ∃ t : State, (coreOf p).run fuel s = .next t ∧ t.script = rest ∧ t.busy = false ∧
      (∀ i < 4 * k, ibufByte t i = ibufByte s i) ∧ ∀ i < bs.length, ibufByte t (4 * k + i) = bs.getD i 0#8 := by
  obtain ⟨hmod, _⟩ := ibufBytesLegal_iff.mp hp
  induction fuel generalizing k bs s with
  | zero => exact ⟨s, rfl, hs, hidle, fun _ _ => rfl, fun i hi => by omega⟩
  | succ fuel ih =>
    have hne : bs ≠ [] := by rintro rfl; simp at hfuel
    have hpos := List.length_pos_of_ne_nil hne
    rw [loadWords_succ fuel k hne] at hs
    have hstep := State.stepWith_wrIbuf hidle hp (by omega) hs
    set u := (s.advance.setScript (loadWords fuel (k + 1) (bs.drop 4) ++ rest)).putIbufWord k (packWord bs)
    have hbyte (i : Nat) : ibufByte u i = if 4 * k ≤ i ∧ i < 4 * k + 4 then byteOfWord (packWord bs) (i - 4 * k)
        else ibufByte s i := ibufByte_putIbufWord _ k i _
    have hdrop : (bs.drop 4).length = bs.length - 4 := List.length_drop
    obtain ⟨t, hrun, hscript, ht, hbelow, hfrom⟩ := ih (k + 1) (bs.drop 4) (by omega) (by omega) (s := u) hidle rfl
    refine ⟨t, (run_succ_of_stepWith hstep fuel).trans hrun, hscript, ht, fun i hi => ?_, fun i hi => ?_⟩
    · rw [hbelow i (by omega), hbyte, if_neg (by omega)]
    · by_cases hi4 : i < 4
      · rw [hbelow _ (by omega), hbyte, if_pos (by omega), Nat.add_sub_cancel_left, byteOfWord_packWord bs hi4]
      · have hi' := hfrom (i - 4) (by omega)
        rw [show 4 * (k + 1) + (i - 4) = 4 * k + i by omega] at hi'
        rw [hi', List.getD_eq_getElem?_getD, List.getElem?_drop, Nat.add_sub_cancel' (by omega),
          List.getD_eq_getElem?_getD]

/-- Settles O59: the words' writes, and then the write of RAW_LEN, which leaves IBUF alone. -/
theorem loadFillsBuffer : Obligations.LoadFillsBuffer := by
  unfold Obligations.LoadFillsBuffer
  intro p s bytes rest hidle hp hfit hs
  obtain ⟨_, _, hmax⟩ := ibufBytesLegal_iff.mp hp
  rw [ScriptLine.expand, List.append_assoc] at hs
  obtain ⟨t, hrun, hscript, ht, _, hbytes⟩ := run_loadWords hp _ _ 0 bytes rfl (by omega) hidle hs
  refine ⟨(t.advance.setScript rest).setRawLen (BitVec.ofNat 32 bytes.length), ?_, rfl, ht, ?_, fun i hi => ?_⟩
  · rw [run_add hrun]
    exact run_succ_of_stepWith (State.stepWith_wrRawLen ht hscript) 0
  · exact Nat.mod_eq_of_lt (by omega)
  · have hi' := hbytes i hi
    rwa [Nat.mul_zero, Nat.zero_add] at hi'

end Sys2Proof.Machine

/-! ### What a CMD write does, and the frame of the commands (40_command_interface R120 to R122) -/

namespace Sys2Proof.Machine

/-- With BUSY = 0 a write to CMD of a word that is no command ends in ILLEGAL_CMD (40_command_interface R122). -/
theorem State.access_write_illegal {s : State} (hidle : s.busy = false) (n : Nat) {v : Word} {e : IllegalCmd}
    (h : Sys2Proof.decode v = .error e) :
    s.access n (.write 0x000000#24 32 v) = .next (s.raise .illegalCmd .none) := by
  refine (s.access_write_reg n .cmd v).trans ?_
  simp [State.writeReg, State.writeCmd, h, State.illegalCmd, hidle]

/-- A word that is no command is none of the three command words (30_encoding R99). -/
theorem ne_encode_of_decode_error {v : Word} {e : IllegalCmd} (h : Sys2Proof.decode v = .error e) (i : Instr) :
    v ≠ encode i := by
  rintro rfl
  rw [decode_encode] at h
  cases h

/-- Settles O4: the busy gate first; then a word that decodes is a command's word, and any other is none of the three. -/
theorem cmdWriteDispatch : Obligations.CmdWriteDispatch := by
  unfold Obligations.CmdWriteDispatch
  intro n s v
  cases hbusy : s.busy with
  | true => exact State.access_write_gated_busy hbusy v (.inl rfl)
  | false =>
    cases hd : Sys2Proof.decode v with
    | ok i =>
      obtain rfl := eq_encode_of_decode hd
      rw [s.access_write_cmd n hd]
      cases i <;> rfl
    | error e =>
      have hne := ne_encode_of_decode_error hd
      rw [State.access_write_illegal hbusy n hd, if_neg Bool.false_ne_true, if_neg (show v ≠ 0#32 from hne .nop),
        if_neg (show v ≠ 1#32 from hne .decode), if_neg (show v ≠ 2#32 from hne .parse)]
      rfl

/-- Settles O7: NOP does nothing behind the busy gate. -/
theorem nopCompletes : Obligations.NopCompletes := by
  unfold Obligations.NopCompletes
  exact fun s => ⟨fun hidle => congrArg _ (State.whenIdle_idle hidle id),
    fun hbusy => congrArg _ (State.whenIdle_busy hbusy id)⟩

/-- All that a command can do, with the state it answers: it is discarded, or it is taken with BUSY = 0
(40_command_interface R120, R121; 41_binary32_decoder R140; 42_block_framer R180, R181). -/
inductive State.CommandEffect (n : Nat) (s : State) : Instr → State → Prop
  | discarded (i : Instr) (busy : s.busy = true) : CommandEffect n s i s.ignoreWrite
  | nop (idle : s.busy = false) : CommandEffect n s .nop s
  | decode (idle : s.busy = false) : CommandEffect n s .decode s.doDecode
  | lenRange (idle : s.busy = false) (long : n < s.rawLen.toNat) : CommandEffect n s .parse (s.raise .lenRange .none)
  | accepted (idle : s.busy = false) (fits : s.rawLen.toNat ≤ n) :
      CommandEffect n s .parse (s.setFsm (.parsing (captureJob s)))

theorem execOf_effect {n : Nat} {i : Instr} {s t : State} (h : execOf n i s = .next t) : s.CommandEffect n i t := by
  cases hb : s.busy with
  | true =>
    have hgate (f : State → State) : s.whenIdle f = s.ignoreWrite := State.whenIdle_busy hb f
    obtain rfl : t = s.ignoreWrite := by cases i <;> (cases h; exact hgate _)
    exact .discarded i hb
  | false =>
    have hgate (f : State → State) : s.whenIdle f = f s := State.whenIdle_idle hb f
    cases i with
    | nop => cases h; rw [hgate]; exact .nop hb
    | decode => cases h; rw [hgate]; exact .decode hb
    | parse =>
      cases h
      rw [hgate, State.acceptParse]
      split
      · exact .lenRange hb ‹_›
      · exact .accepted hb (Nat.le_of_not_lt ‹_›)

/-- The commands write fsm, the outcome, WR_IGNORED and the DEC_* results, and nothing else
(40_command_interface R121, 41_binary32_decoder R140, 42_block_framer R180, R181). -/
theorem State.CommandEffect.frame {n : Nat} {i : Instr} {s t : State} (h : s.CommandEffect n i t) :
    t = { s with
      fsm := t.fsm, err := t.err, hdrCause := t.hdrCause, wrIgnored := t.wrIgnored
      decInfo := t.decInfo, decMant := t.decMant, decOutLo := t.decOutLo, decOutHi := t.decOutHi } := by
  cases h <;> rfl

/-- Settles O12: the five effects differ in who owns what they write, and share one frame. -/
theorem commandFrames : Obligations.CommandFrames := by
  unfold Obligations.CommandFrames
  intro n i s t h
  obtain ⟨m, h⟩ : ∃ m, execOf m i s = .next t :=
    h.elim (⟨n, ·⟩) fun h => ⟨Config.ibufBytes, (exec_eq_execOf i s).symm.trans h⟩
  have heffect := execOf_effect h
  have howned : (i ≠ .parse → t.fsm = s.fsm) ∧ (i = .nop → t.err = s.err ∧ t.hdrCause = s.hdrCause) ∧
      (i ≠ .decode → t.decInfo = s.decInfo ∧ t.decMant = s.decMant ∧ t.decOutLo = s.decOutLo ∧
        t.decOutHi = s.decOutHi) ∧
      (s.busy = false → t.wrIgnored = s.wrIgnored) ∧ (s.busy = true → t = { s with wrIgnored := true }) := by
    cases heffect with
    | discarded i busy => simp [busy, State.ignoreWrite]
    | nop idle | decode idle | lenRange idle | accepted idle => simp [idle]
  obtain ⟨hfsm, hnop, hdec, hidle, hbusy⟩ := howned
  refine ⟨hfsm, hnop, hdec, hidle, hbusy, ?_⟩
  rw [heffect.frame]
  exact ⟨rfl, rfl, rfl, rfl, rfl, rfl, rfl, rfl, rfl, rfl, rfl, fun _ => rfl, fun _ => rfl, rfl, rfl, rfl, rfl, rfl, rfl⟩

end Sys2Proof.Machine

/-! ### Accesses while BUSY = 1 (40_command_interface R125, R126) -/

namespace Sys2Proof.Machine

/-- Settles O13: the four targets are those behind the busy gate. -/
theorem busyWritesAreDiscarded : Obligations.BusyWritesAreDiscarded := by
  unfold Obligations.BusyWritesAreDiscarded
  exact fun _ _ _ v hbusy ha => State.access_write_gated_busy hbusy v ha

/-- The registers that are no PARSE result: a read of one returns the stored value at any time
(40_command_interface R126). -/
def storedRegs : List Reg :=
  [.cmd, .status, .cfg, .rawLen, .decIn, .decInfo, .decMant, .decOutLo, .decOutHi, .ibufSize]

theorem State.readReg_stored (s : State) (n : Nat) {r : Reg} (h : r ∈ storedRegs) :
    s.readReg n r = s.reply (s.regValue n r) := by
  cases r with
  | hdrForm | hdrDigits | hdrLength | payloadOff | payloadBytes | sampleCount => exact absurd h (by decide)
  | cmd | status | cfg | rawLen | decIn | decInfo | decMant | decOutLo | decOutHi | ibufSize => rfl

/-- Word `k` of an IBUF of any size, below the end of its window (20_memory R62). -/
theorem locate_ibufWord_of_lt {n k : Nat} (hk : 4 * k < n) (hmax : 4 * k < 0x100000) :
    locate n (BitVec.ofNat 24 (0x100000 + 4 * k)) = some (.ibufWord k) := by
  have ha : (BitVec.ofNat 24 (0x100000 + 4 * k)).toNat = 0x100000 + 4 * k := Nat.mod_eq_of_lt (by omega)
  rw [locate_ibuf (by omega) (by omega) (by omega) (by omega), ha, Nat.add_sub_cancel_left,
    Nat.mul_div_cancel_left k (by decide)]

/-- Every word of the register block is a register (20_memory R62). -/
theorem regAt_isSome : ∀ k < 16, (regAt k).isSome = true := by decide

theorem locate_isSome_of_reg (n : Nat) {a : Addr} (h4 : a.toNat % 4 = 0) (hlt : a.toNat < 0x40) :
    ∃ l, locate n a = some l := by
  obtain ⟨r, hr⟩ := Option.isSome_iff_exists.mp (regAt_isSome (a.toNat / 4) (by omega))
  exact ⟨.reg r, by simp [locate, h4, hlt, hr]⟩

/-- A host read returns one value, whatever it reads (20_memory R64, R70). -/
theorem State.busRead_replies (s : State) (n : Nat) (a : Addr) (size : Nat) :
    ∃ w, (s.busRead n a size).replies = w :: s.replies := by
  rcases s.busRead_cases n a size with h | ⟨v, h⟩ | ⟨_, h⟩ <;> exact ⟨_, congrArg State.replies h⟩

/-- A read of a mapped address changes only the model's records of reads (20_memory R70). -/
theorem State.access_read_mapped (s : State) {n : Nat} {a : Addr} (h : ∃ l, locate n a = some l) :
    ∃ w t, s.access n (.read a 32) = .next t ∧ t = { s with replies := w :: s.replies, draws := t.draws } := by
  obtain ⟨l, hl⟩ := h
  obtain ⟨w, hw⟩ := s.busRead_replies n a 32
  have hread : s.busRead n a 32 = s.readLoc n l := Host.Outcome.next.inj (s.access_read_of_locate hl)
  have haddr : (s.busRead n a 32).addrErr = s.addrErr := hread ▸ s.readLoc_addrErr n l
  have hframe := s.busRead_frame n a 32
  rw [haddr, hw] at hframe
  exact ⟨w, s.busRead n a 32, rfl, hframe⟩

/-- Settles O14: DEC_IN and STATUS are not behind the busy gate, the table lists storedRegs, and the last reads are of
mapped addresses. -/
theorem busyAccessesWithNormalEffect : Obligations.BusyAccessesWithNormalEffect := by
  unfold Obligations.BusyAccessesWithNormalEffect
  intro n s _
  refine ⟨s.access_write_reg n .decIn, s.access_write_reg n .status, fun a v hmem => ?_, fun k hk hmax => ?_,
    fun a h4 ha => s.access_read_mapped ?_⟩
  · have htable : (a, v) ∈ storedRegs.map fun r => (r.addr, s.regValue n r) := hmem
    obtain ⟨r, hr, hav⟩ := List.mem_map.mp htable
    cases hav
    rw [s.access_read_of_locate (locate_reg n r)]
    exact congrArg _ (s.readReg_stored n hr)
  · exact s.access_read_of_locate (locate_ibufWord_of_lt hk hmax)
  · rcases ha with ⟨_, hhi⟩ | ⟨hlo, hhi⟩
    · exact locate_isSome_of_reg n h4 (by omega)
    · exact ⟨_, locate_obuf h4 hlo hhi⟩

end Sys2Proof.Machine

/-! ### A write racing a PARSE (93_implementation_defined U8) -/

namespace Sys2Proof.Machine

/-- While BUSY = 1 with no access granted, the schedule chooses who moves (log 5). -/
theorem State.nextAgent_contended {s : State} (hbusy : s.busy = true) (hgranted : s.granted = false)
    (schedule : Nat → Agent) : s.nextAgent schedule = schedule s.clock := by
  simp [State.nextAgent, State.contended, hbusy, hgranted]

/-- The unit's step while PARSING is the completion (70_reset_and_hazards R283). -/
theorem State.stepWith_completion {s : State} {p : Params} {job : Job} (hagent : s.nextAgent p.schedule = .unit)
    (hs : s.fsm = .parsing job) : s.stepWith p = .next (s.advance.complete job) := by
  simp only [State.stepWith, hagent]
  exact congrArg _ (State.unitTurn_parsing (s := s.advance) hs)

/-- A discarded write changes nothing that BUSY guards (40_command_interface R125). -/
@[simp] theorem State.guarded_ignoreWrite (s : State) : s.ignoreWrite.guarded = s.guarded := rfl

/-- A completion does not look at what BUSY does not guard (42_block_framer R199). -/
theorem State.guarded_complete (s : State) (job : Job) : (s.complete job).guarded = s.guarded.complete job := by
  unfold State.complete State.putOutcome
  cases parseBlock job <;> rfl

theorem State.guarded_complete_congr {s t : State} (h : t.guarded = s.guarded) (job : Job) :
    (t.complete job).guarded = (s.complete job).guarded := by
  rw [State.guarded_complete, State.guarded_complete, h]

/-- The outcome, the result registers and OBUF are among what BUSY guards (10_state R25, R26, R35, R39). -/
theorem State.results_of_guarded {s t : State} (h : t.guarded = s.guarded) :
    t.err = s.err ∧ t.hdrCause = s.hdrCause ∧ t.hdrForm = s.hdrForm ∧ t.hdrDigits = s.hdrDigits ∧
      t.hdrLength = s.hdrLength ∧ t.payloadOff = s.payloadOff ∧ t.payloadBytes = s.payloadBytes ∧
      t.sampleCount = s.sampleCount ∧ t.obuf = s.obuf :=
  ⟨State.congr_guarded State.err h, State.congr_guarded State.hdrCause h, State.congr_guarded State.hdrForm h,
    State.congr_guarded State.hdrDigits h, State.congr_guarded State.hdrLength h, State.congr_guarded State.payloadOff h,
    State.congr_guarded State.payloadBytes h, State.congr_guarded State.sampleCount h, State.congr_guarded State.obuf h⟩

/-- The host's step at a write of an IBUF word, while BUSY = 1: discarded (40_command_interface R125). -/
theorem State.stepWith_ibufWrite_busy {s : State} {p : Params} {a : Addr} {v : Word} {k : Nat} {rest : List HostOp}
    (hbusy : s.busy = true) (hagent : s.nextAgent p.schedule = .host) (hs : s.script = .access (.write a 32 v) :: rest)
    (hl : locate p.ibufBytes a = some (.ibufWord k)) :
    s.stepWith p = .next (s.advance.setScript rest).ignoreWrite := by
  rw [State.stepWith_host hagent hs, State.hostOp, State.access_write_of_locate _ v hl]
  exact congrArg _ (State.whenIdle_busy (s := s.advance.setScript rest) hbusy _)

/-- The host's step at a write of an IBUF word, with BUSY = 0: taken, whatever the schedule (20_memory R63). -/
theorem State.stepWith_ibufWrite_idle {s : State} {p : Params} {a : Addr} {v : Word} {k : Nat} {rest : List HostOp}
    (hidle : s.busy = false) (hs : s.script = .access (.write a 32 v) :: rest)
    (hl : locate p.ibufBytes a = some (.ibufWord k)) :
    s.stepWith p = .next ((s.advance.setScript rest).putIbufWord k v) := by
  rw [State.stepWith_host (State.nextAgent_idle hidle _) hs, State.hostOp, State.access_write_of_locate _ v hl]
  exact congrArg _ (State.whenIdle_idle (s := s.advance.setScript rest) hidle _)

/-- A run of two steps. -/
theorem run_two_of_stepWith {p : Params} {s t u : State} (h₁ : s.stepWith p = .next t) (h₂ : t.stepWith p = .next u) :
    (coreOf p).run 2 s = .next u :=
  (run_succ_of_stepWith h₁ 1).trans (run_succ_of_stepWith h₂ 0)

/-- The host first, then the unit: the write is discarded, and the PARSE completes. -/
theorem run_ibufWrite_completion {p : Params} {s : State} {job : Job} {a : Addr} {v : Word} {k : Nat}
    (hs : s.fsm = .parsing job) (hgranted : s.granted = false) (hscript : s.script = [.access (.write a 32 v)])
    (hl : locate p.ibufBytes a = some (.ibufWord k)) (hhost : p.schedule s.clock = .host)
    (hunit : p.schedule (s.clock + 1) = .unit) :
    (coreOf p).run 2 s = .next ((s.advance.setScript []).ignoreWrite.advance.complete job) := by
  have hbusy : s.busy = true := State.busy_iff.mpr ⟨job, hs⟩
  have hclock : (s.advance.setScript []).ignoreWrite.clock = s.clock + 1 := by
    simp [State.contended, hbusy, hgranted]
  refine run_two_of_stepWith
    (State.stepWith_ibufWrite_busy hbusy ((State.nextAgent_contended hbusy hgranted _).trans hhost) hscript hl)
    (State.stepWith_completion ?_ hs)
  rw [State.nextAgent_contended (s := (s.advance.setScript []).ignoreWrite) hbusy rfl, hclock, hunit]

/-- The unit first, then the host: the PARSE completes, and the write is taken. -/
theorem run_completion_ibufWrite {p : Params} {s : State} {job : Job} {a : Addr} {v : Word} {k : Nat}
    (hs : s.fsm = .parsing job) (hgranted : s.granted = false) (hscript : s.script = [.access (.write a 32 v)])
    (hl : locate p.ibufBytes a = some (.ibufWord k)) (hunit : p.schedule s.clock = .unit) :
    (coreOf p).run 2 s = .next (((s.advance.complete job).advance.setScript []).putIbufWord k v) := by
  have hbusy : s.busy = true := State.busy_iff.mpr ⟨job, hs⟩
  have hscript' : (s.advance.complete job).script = [.access (.write a 32 v)] := by
    rw [← hscript]
    simp [complete_frame]
  exact run_two_of_stepWith
    (State.stepWith_completion ((State.nextAgent_contended hbusy hgranted _).trans hunit) hs)
    (State.stepWith_ibufWrite_idle rfl hscript' hl)

/-- Settles O60: the discarded write changes nothing that BUSY guards, so the two completions write the same; the write
that is taken writes IBUF alone. -/
theorem racingWrite : Obligations.RacingWrite := by
  unfold Obligations.RacingWrite
  intro n hostFirst unitFirst s job a v k hs hgranted hscript hl hhost hunit hunit'
  have hsame : ((s.advance.setScript []).ignoreWrite.advance.complete job).guarded = (s.advance.complete job).guarded :=
    State.guarded_complete_congr (by simp) job
  obtain ⟨herr, hcause, hform, hdigits, hlength, hoff, hbytes, hcount, hobuf⟩ := State.results_of_guarded hsame
  refine ⟨_, _, run_ibufWrite_completion hs hgranted hscript hl hhost hunit,
    run_completion_ibufWrite hs hgranted hscript hl hunit', rfl, rfl, herr, hcause, hform, hdigits, hlength, hoff,
    hbytes, hcount, hobuf, ?_, ?_, ?_, ?_⟩
  · simp [complete_frame]
  · simp [complete_frame]
  · simp [complete_frame, State.putIbufWord]
  · simp [complete_frame]

end Sys2Proof.Machine

/-! ### The binary64 words of the decoder, and the numbers they stand for (30_encoding R93) -/

namespace Sys2Proof.Machine

section Packed
variable (s : Bool) (x : BitVec 11) (f : BitVec 52)

@[simp] theorem f64Sign_packF64 : f64Sign (packF64 s x f) = s := by
  refine BitVec.getLsbD_append.trans (BitVec.getLsbD_append.trans ?_)
  simp

@[simp] theorem f64Exp_packF64 : f64Exp (packF64 s x f) = x := by
  rw [f64Exp, packF64, BitVec.extractLsb'_append_eq_of_le (Nat.le_refl 52)]
  exact BitVec.extractLsb'_append_eq_right

@[simp] theorem f64Frac_packF64 : f64Frac (packF64 s x f) = f := BitVec.extractLsb'_append_eq_right

end Packed

/-- A signed zero is exact: its value is 0 (30_encoding R93). -/
theorem f64_packF64_zero (s : Bool) :
    f64Plain (packF64 s 0#11 0#52) = true ∧ f64Value (packF64 s 0#11 0#52) = 0 := by
  simp [f64Plain, f64Value]

/-- A packed word with exponent 0 < X < 2047 is normal, and the value of its fields is the value of the numbers put into
them (30_encoding R93). -/
theorem f64_packF64_normal (s : Bool) {x f : Nat} (hpos : 0 < x) (hx : x < 2047) (hf : f < 2 ^ 52) :
    f64Plain (packF64 s (BitVec.ofNat 11 x) (BitVec.ofNat 52 f)) = true ∧
      f64Value (packF64 s (BitVec.ofNat 11 x) (BitVec.ofNat 52 f)) =
        signValue s * 2 ^ ((x : ℤ) - 1023) * (1 + f * 2 ^ (-52 : ℤ)) := by
  have hxNat : (BitVec.ofNat 11 x).toNat = x := Nat.mod_eq_of_lt (by omega)
  have hfNat : (BitVec.ofNat 52 f).toNat = f := Nat.mod_eq_of_lt hf
  have hne : BitVec.ofNat 11 x ≠ 0#11 := fun h => by
    rw [h] at hxNat
    exact hpos.ne hxNat
  constructor
  · simp [f64Plain, -BitVec.toNat_ofNat, hxNat, hpos, hx]
  · simp [f64Value, -BitVec.toNat_ofNat, hxNat, hfNat, hne]

/-- The word of E + 896 and M << 29 is sgn * 2^(E - 127) * (1 + M * 2^-23) (41_binary32_decoder R146). -/
theorem f64_normalBits (s : Bool) {e m : Nat} (he : e < 256) (hm : m < 2 ^ 23) :
    f64Plain (normalBits s e m) = true ∧
      f64Value (normalBits s e m) = signValue s * 2 ^ ((e : ℤ) - 127) * (1 + m * 2 ^ (-23 : ℤ)) := by
  rw [normalBits, Nat.shiftLeft_eq]
  obtain ⟨hplain, hvalue⟩ := f64_packF64_normal s (x := e + 896) (f := m * 2 ^ 29) (by omega) (by omega) (by omega)
  have hexp : ((e + 896 : ℕ) : ℤ) - 1023 = e - 127 := by omega
  refine ⟨hplain, hvalue.trans ?_⟩
  rw [hexp]
  push_cast
  norm_num [mul_assoc]

/-- With p the index of the highest bit of M, the word of p + bias and (M - 2^p) << (52 - p) is
sgn * M * 2^(bias - 1023) (41_binary32_decoder R146, R149). -/
theorem f64_denormalBits (s : Bool) {m bias : Nat} (hm0 : m ≠ 0) (hm : m < 2 ^ 23) (hpos : 0 < bias)
    (hbias : bias < 2000) :
    f64Plain (denormalBits s m bias) = true ∧
      f64Value (denormalBits s m bias) = signValue s * m * 2 ^ ((bias : ℤ) - 1023) := by
  have hp : msb m < 23 := (Nat.log2_lt hm0).mpr hm
  have hlow : 2 ^ msb m ≤ m := Nat.log2_self_le hm0
  have hhigh : m - 2 ^ msb m < 2 ^ msb m := by
    have : m < 2 ^ (msb m + 1) := Nat.lt_log2_self
    omega
  rw [denormalBits, Nat.shiftLeft_eq]
  generalize msb m = p at *
  have hfrac : (m - 2 ^ p) * 2 ^ (52 - p) < 2 ^ 52 :=
    calc (m - 2 ^ p) * 2 ^ (52 - p) < 2 ^ p * 2 ^ (52 - p) := Nat.mul_lt_mul_of_pos_right hhigh (by positivity)
      _ = 2 ^ 52 := by rw [← pow_add, Nat.add_sub_cancel' (by omega)]
  obtain ⟨hplain, hvalue⟩ := f64_packF64_normal s (x := p + bias) (by omega) (by omega) hfrac
  refine ⟨hplain, hvalue.trans ?_⟩
  have hexp : (2 : ℚ) ^ (((p + bias : ℕ) : ℤ) - 1023) = 2 ^ p * 2 ^ ((bias : ℤ) - 1023) := by
    rw [← zpow_natCast, ← zpow_add₀ two_ne_zero]
    congr 1
    omega
  have hscale : (2 : ℚ) ^ p * (2 ^ (52 - p) * 2 ^ (-52 : ℤ)) = 1 := by
    rw [← mul_assoc, ← pow_add, Nat.add_sub_cancel' (by omega)]
    norm_num
  rw [hexp, Nat.cast_mul, Nat.cast_sub hlow]
  push_cast
  linear_combination signValue s * 2 ^ ((bias : ℤ) - 1023) * (m - 2 ^ p) * hscale

end Sys2Proof.Machine

/-! ### decode_f32, case by case (41_binary32_decoder R146 to R151) -/

namespace Sys2Proof.Machine

/-- What a mode adds to the index of M's highest bit to get a denormal's exponent (41_binary32_decoder R146, R149). -/
def F32Mode.denormalBias : F32Mode → Nat
  | .manual => 873
  | .native => 874

section Cases
variable {w : Word}

theorem decodeF32_zero (mode : F32Mode) (hE : f32Exp w = 0#8) (hM : f32Mant w = 0#23) :
    decodeF32 mode w = packF64 (f32Sign w) 0#11 0#52 := by
  cases mode <;> simp [decodeF32, manualBits, nativeBits, hE, hM]

theorem decodeF32_denormal (mode : F32Mode) (hE : f32Exp w = 0#8) (hM : f32Mant w ≠ 0#23) :
    decodeF32 mode w = denormalBits (f32Sign w) (f32Mant w).toNat mode.denormalBias := by
  cases mode <;> simp [decodeF32, manualBits, nativeBits, F32Mode.denormalBias, hE, hM]

/-- MANUAL gives the words with E = 255 no meaning of their own (41_binary32_decoder R146, R149). -/
theorem decodeF32_normal {mode : F32Mode} (hE : f32Exp w ≠ 0#8) (hmode : mode = .manual ∨ f32Exp w ≠ 255#8) :
    decodeF32 mode w = normalBits (f32Sign w) (f32Exp w).toNat (f32Mant w).toNat := by
  cases mode with
  | manual => simp [decodeF32, manualBits, hE]
  | native => simp [decodeF32, nativeBits, hE, hmode.resolve_left F32Mode.noConfusion]

theorem decodeF32_native_infinity (hE : f32Exp w = 255#8) (hM : f32Mant w = 0#23) :
    decodeF32 .native w = packF64 (f32Sign w) 0x7FF#11 0#52 := by
  simp [decodeF32, nativeBits, hE, hM]

theorem decodeF32_native_nan (hE : f32Exp w = 255#8) (hM : f32Mant w ≠ 0#23) :
    decodeF32 .native w = nan64Bits (f32Sign w) (f32Mant w) := by
  simp [decodeF32, nativeBits, hE, hM]

end Cases

/-- NAN64 is a NaN whatever its free sign and fraction are (41_binary32_decoder R150). -/
theorem nan64Bits_isNaN (s : Bool) (m : BitVec 23) :
    f64Exp (nan64Bits s m) = 0x7FF#11 ∧ f64Frac (nan64Bits s m) ≠ 0#52 := by
  rw [nan64Bits, f64Exp_packF64, f64Frac_packF64]
  refine ⟨rfl, fun h => ?_⟩
  have hlt := (Config.nan64 s m).2.isLt
  have hzero := congrArg BitVec.toNat h
  rw [BitVec.toNat_ofNat, Nat.mod_eq_of_lt (by omega)] at hzero
  exact Nat.succ_ne_zero _ hzero

/-- msb is the index of the highest bit that is set (41_binary32_decoder R146). -/
theorem msb_toNat_eq {n p : Nat} {m : BitVec n} (hp : m.getLsbD p = true) (hhigh : ∀ q, p < q → m.getLsbD q = false) :
    msb m.toNat = p := by
  have hlow : 2 ^ p ≤ m.toNat := Nat.ge_two_pow_of_testBit hp
  have hlt : m.toNat < 2 ^ (p + 1) := Nat.lt_pow_two_of_testBit _ hhigh
  exact (Nat.log2_eq_iff (by have := Nat.two_pow_pos p; omega)).mpr ⟨hlow, hlt⟩

/-- A denormal's bit pattern in either mode, from the highest bit of M (41_binary32_decoder R146, R149). -/
theorem decodeF32_denormal_of_highestBit (mode : F32Mode) {w : Word} {p : Nat} (hE : f32Exp w = 0#8)
    (hp : (f32Mant w).getLsbD p = true) (hhigh : ∀ q, p < q → (f32Mant w).getLsbD q = false) :
    decodeF32 mode w = BitVec.ofBool (f32Sign w) ++ BitVec.ofNat 11 (p + mode.denormalBias) ++
      BitVec.ofNat 52 (((f32Mant w).toNat - 2 ^ p) * 2 ^ (52 - p)) := by
  have hM : f32Mant w ≠ 0#23 := fun h => by simp [h] at hp
  rw [decodeF32_denormal mode hE hM, denormalBits, msb_toNat_eq hp hhigh, Nat.shiftLeft_eq, packF64]

/-- Settles O32: the three cases of decode_f32 in MANUAL mode. -/
theorem manualBitPatterns : Obligations.ManualBitPatterns := by
  unfold Obligations.ManualBitPatterns
  intro w
  refine ⟨decodeF32_zero .manual, fun p hE hp hhigh => ⟨?_, decodeF32_denormal_of_highestBit .manual hE hp hhigh⟩,
    fun hE => ?_⟩
  · exact Nat.le_of_lt_succ (BitVec.lt_of_getLsbD hp)
  · rw [decodeF32_normal hE (.inl rfl), normalBits, Nat.shiftLeft_eq, packF64]

/-- Settles O33: the cases of decode_f32 in NATIVE mode; of a NaN only that it is one is known. -/
theorem nativeBitPatterns : Obligations.NativeBitPatterns := by
  unfold Obligations.NativeBitPatterns
  intro w
  refine ⟨decodeF32_zero .native, fun p => decodeF32_denormal_of_highestBit .native, fun hE hE' => ?_,
    decodeF32_native_infinity, fun hE hM => ?_⟩
  · rw [decodeF32_normal hE (.inr hE'), decodeF32_normal hE (.inl rfl)]
  · rw [decodeF32_native_nan hE hM]
    exact nan64Bits_isNaN _ _

/-- Settles O37: both words have E = 0 and M = 0. -/
theorem signedZero : Obligations.SignedZero := by
  unfold Obligations.SignedZero
  exact fun mode => ⟨decodeF32_zero mode rfl rfl, decodeF32_zero mode rfl rfl⟩

end Sys2Proof.Machine

/-! ### The decoder's results are exact (41_binary32_decoder R143 to R145, R148, R149) -/

namespace Sys2Proof.Machine

/-- The low n bits of a number sum to the number modulo 2^n. -/
theorem sum_testBit_eq_mod_two_pow (m n : Nat) :
    ∑ j ∈ Finset.range n, (if m.testBit j then 2 ^ j else 0) = m % 2 ^ n := by
  induction n with
  | zero => simp [Nat.mod_one]
  | succ n ih =>
    rw [Finset.sum_range_succ, ih, Nat.mod_pow_succ, ← Nat.toNat_testBit]
    cases m.testBit n <;> simp

/-- A bit vector's value is the sum of its bits. -/
theorem sum_getLsbD_eq_toNat {n : Nat} (m : BitVec n) :
    ∑ j ∈ Finset.range n, (if m.getLsbD j then (2 : ℚ) ^ j else 0) = m.toNat := by
  have hsum := sum_testBit_eq_mod_two_pow m.toNat n
  rw [Nat.mod_eq_of_lt m.isLt] at hsum
  rw [← hsum]
  push_cast
  rfl

/-- The source's sum, most significant bit first, is M * 2^-23 (41_binary32_decoder R143). -/
theorem manualFrac_eq (w : Word) :
    manualFrac w = (if f32Lead w then 1 else 0) + (f32Mant w).toNat * 2 ^ (-23 : ℤ) := by
  have hterm : ∀ i ∈ Finset.range 23, (if (f32Mant w).getLsbD (22 - i) then (2 : ℚ) ^ (-((i : ℤ) + 1)) else 0) =
      (if (f32Mant w).getLsbD (23 - 1 - i) then (2 : ℚ) ^ (23 - 1 - i) else 0) * 2 ^ (-23 : ℤ) := by
    intro i hi
    have hi : i < 23 := Finset.mem_range.mp hi
    have hexp : (2 : ℚ) ^ (-((i : ℤ) + 1)) = 2 ^ (23 - 1 - i) * 2 ^ (-23 : ℤ) := by
      rw [← zpow_natCast, ← zpow_add₀ two_ne_zero]
      congr 1
      omega
    rw [ite_mul, zero_mul, hexp]
  rw [manualFrac, Config.mantBits, Finset.sum_congr rfl hterm, ← Finset.sum_mul,
    Finset.sum_range_reflect (fun j => if (f32Mant w).getLsbD j then (2 : ℚ) ^ j else 0), sum_getLsbD_eq_toNat]

section Values
variable {w : Word}

/-- With E = 0 a word's result is sgn * M * 2^-150 in MANUAL mode and sgn * M * 2^-149 in NATIVE mode, M = 0 included
(41_binary32_decoder R146, R149). -/
theorem f64_decodeF32_of_exp_zero (mode : F32Mode) (hE : f32Exp w = 0#8) :
    f64Plain (decodeF32 mode w) = true ∧
      f64Value (decodeF32 mode w) =
        signValue (f32Sign w) * (f32Mant w).toNat * 2 ^ ((mode.denormalBias : ℤ) - 1023) := by
  by_cases hM : f32Mant w = 0#23
  · rw [decodeF32_zero mode hE hM]
    simpa [hM] using f64_packF64_zero (f32Sign w)
  · rw [decodeF32_denormal mode hE hM]
    exact f64_denormalBits _ (BitVec.toNat_pos_of_ne_zero hM).ne' (f32Mant w).isLt
      (by cases mode <;> decide) (by cases mode <;> decide)

/-- With E not 0 a result that is no NATIVE infinity or NaN is sgn * 2^(E - 127) * (1 + M * 2^-23)
(41_binary32_decoder R144, R149). -/
theorem f64_decodeF32_normal {mode : F32Mode} (hE : f32Exp w ≠ 0#8) (hmode : mode = .manual ∨ f32Exp w ≠ 255#8) :
    f64Plain (decodeF32 mode w) = true ∧
      f64Value (decodeF32 mode w) =
        signValue (f32Sign w) * 2 ^ ((f32Exp w).toNat - 127 : ℤ) * (1 + (f32Mant w).toNat * 2 ^ (-23 : ℤ)) := by
  rw [decodeF32_normal hE hmode]
  exact f64_normalBits _ (f32Exp w).isLt (f32Mant w).isLt

theorem manualValue_of_exp_ne_zero (hE : f32Exp w ≠ 0#8) :
    manualValue w =
      signValue (f32Sign w) * 2 ^ ((f32Exp w).toNat - 127 : ℤ) * (1 + (f32Mant w).toNat * 2 ^ (-23 : ℤ)) := by
  have hlead : f32Lead w = true := by simp [f32Lead, hE]
  rw [manualValue, manualFrac_eq, hlead, if_pos rfl]

/-- Here E - 127 is -127 and the leading bit 0 (41_binary32_decoder R144). -/
theorem manualValue_of_exp_zero (hE : f32Exp w = 0#8) :
    manualValue w = signValue (f32Sign w) * (f32Mant w).toNat * 2 ^ (-150 : ℤ) := by
  have hlead : f32Lead w = false := by simp [f32Lead, hE]
  have hscale : (2 : ℚ) ^ (-150 : ℤ) = 2 ^ (-127 : ℤ) * 2 ^ (-23 : ℤ) := by
    rw [← zpow_add₀ two_ne_zero]
    norm_num
  have hexp : ((f32Exp w).toNat : ℤ) - 127 = -127 := by rw [hE]; rfl
  rw [manualValue, manualFrac_eq, hlead, if_neg Bool.false_ne_true, hexp, hscale]
  ring

end Values

/-- Settles O31: each side of the value has one formula for E = 0 and one for E not 0, and they are the same. -/
theorem manualValueIsExact : Obligations.ManualValueIsExact := by
  unfold Obligations.ManualValueIsExact
  intro w
  have hexact : f64Plain (decodeF32 .manual w) = true ∧ f64Value (decodeF32 .manual w) = manualValue w := by
    by_cases hE : f32Exp w = 0#8
    · rw [manualValue_of_exp_zero hE]
      exact f64_decodeF32_of_exp_zero .manual hE
    · rw [manualValue_of_exp_ne_zero hE]
      exact f64_decodeF32_normal hE (.inl rfl)
  obtain ⟨hplain, hvalue⟩ := hexact
  exact ⟨hplain, hvalue, manualFrac_eq w, manualValue_of_exp_ne_zero, manualValue_of_exp_zero⟩

/-- Settles O34: the IEEE value's two formulas are those of the NATIVE result. -/
theorem nativeValueIsExact : Obligations.NativeValueIsExact := by
  unfold Obligations.NativeValueIsExact
  intro w hfinite
  unfold ieeeValue
  split
  · exact f64_decodeF32_of_exp_zero .native ‹_›
  · exact f64_decodeF32_normal ‹_› (.inr hfinite)

/-- With E = 255 the MANUAL word has the exponent of 2^128 (41_binary32_decoder R148). -/
theorem decodeF32_manual_of_exp_255 {w : Word} (hE : f32Exp w = 255#8) :
    decodeF32 .manual w = packF64 (f32Sign w) 0x47F#11 (BitVec.ofNat 52 ((f32Mant w).toNat * 2 ^ 29)) ∧
      f64Value (decodeF32 .manual w) =
        signValue (f32Sign w) * 2 ^ 128 * (1 + (f32Mant w).toNat * 2 ^ (-23 : ℤ)) := by
  have hE0 : f32Exp w ≠ 0#8 := by rw [hE]; decide
  constructor
  · rw [decodeF32_normal hE0 (.inl rfl), hE, normalBits, Nat.shiftLeft_eq]
    rfl
  · rw [(f64_decodeF32_normal hE0 (.inl rfl)).2, hE]
    norm_num

/-- Settles O36: a denormal's exponent is one too low; infinities and NaNs are read as numbers with E = 255. -/
theorem manualSpecialClasses : Obligations.ManualSpecialClasses := by
  unfold Obligations.ManualSpecialClasses
  intro w
  refine ⟨fun hE _ => ?_, fun hE hM => ?_, fun hE _ => decodeF32_manual_of_exp_255 hE⟩
  · have hvalue : f64Value (decodeF32 .manual w) = signValue (f32Sign w) * (f32Mant w).toNat * 2 ^ (-150 : ℤ) :=
      (f64_decodeF32_of_exp_zero .manual hE).2
    refine ⟨hvalue, ?_⟩
    rw [hvalue, ieeeValue, if_pos hE, show (-149 : ℤ) = 1 + -150 by norm_num, zpow_add₀ two_ne_zero, zpow_one]
    ring
  · obtain ⟨hbits, hvalue⟩ := decodeF32_manual_of_exp_255 hE
    rw [hM] at hbits hvalue
    exact ⟨hbits, by simpa using hvalue⟩

/-- NATIVE keeps a word with E = 255 no number (41_binary32_decoder R149, R150). -/
theorem f64Exp_decodeF32_native_of_exp_255 {w : Word} (hE : f32Exp w = 255#8) :
    f64Exp (decodeF32 .native w) = 0x7FF#11 := by
  by_cases hM : f32Mant w = 0#23
  · rw [decodeF32_native_infinity hE hM, f64Exp_packF64]
  · rw [decodeF32_native_nan hE hM]
    exact (nan64Bits_isNaN _ _).1

/-- The two modes give a denormal exponents that differ by one (41_binary32_decoder R151). -/
theorem decodeF32_modes_ne_of_denormal {w : Word} (hE : f32Exp w = 0#8) (hM : f32Mant w ≠ 0#23) :
    decodeF32 .manual w ≠ decodeF32 .native w := by
  intro heq
  have hp : msb (f32Mant w).toNat < 23 := (Nat.log2_lt (BitVec.toNat_pos_of_ne_zero hM).ne').mpr (f32Mant w).isLt
  rw [decodeF32_denormal _ hE hM, decodeF32_denormal _ hE hM] at heq
  have hexp := congrArg (fun r => (f64Exp r).toNat) heq
  simp only [denormalBits, f64Exp_packF64, BitVec.toNat_ofNat, F32Mode.denormalBias] at hexp
  omega

/-- The exponents 0x47F and 0x7FF of the two modes (41_binary32_decoder R151). -/
theorem decodeF32_modes_ne_of_exp_255 {w : Word} (hE : f32Exp w = 255#8) :
    decodeF32 .manual w ≠ decodeF32 .native w := by
  intro heq
  have hexp := f64Exp_decodeF32_native_of_exp_255 hE
  rw [← heq, (decodeF32_manual_of_exp_255 hE).1, f64Exp_packF64] at hexp
  exact absurd hexp (by decide)

/-- Settles O35: zeros and normal words share a case of decode_f32; denormals and E = 255 differ in the exponent. -/
theorem modesAgree : Obligations.ModesAgree := by
  unfold Obligations.ModesAgree
  intro w
  constructor
  · intro heq
    by_cases hE : f32Exp w = 0#8
    · exact .inr ⟨hE, not_not.mp fun hM => decodeF32_modes_ne_of_denormal hE hM heq⟩
    · exact .inl ⟨hE, fun hE' => decodeF32_modes_ne_of_exp_255 hE' heq⟩
  · rintro (⟨hE, hE'⟩ | ⟨hE, hM⟩)
    · rw [decodeF32_normal hE (.inl rfl), decodeF32_normal hE (.inr hE')]
    · rw [decodeF32_zero _ hE hM, decodeF32_zero _ hE hM]

end Sys2Proof.Machine

/-! ### DECODE (41_binary32_decoder R140) -/

namespace Sys2Proof.Machine

/-- S as a field of one bit (30_encoding R91). -/
theorem ofBool_f32Sign (w : Word) : BitVec.ofBool (f32Sign w) = w.extractLsb' 31 1 := by
  refine BitVec.eq_of_getLsbD_eq fun i hi => ?_
  obtain rfl : i = 0 := by omega
  simp [f32Sign]

/-- Settles O8: DECODE is doDecode behind the busy gate, and DEC_IN is a register of its own. -/
theorem decodeCompletes : Obligations.DecodeCompletes := by
  unfold Obligations.DecodeCompletes
  intro s
  refine ⟨fun hidle => ?_, fun hbusy => congrArg _ (State.whenIdle_busy hbusy State.doDecode),
    fun n w => s.access_write_reg n .decIn w⟩
  rw [← ofBool_f32Sign]
  exact congrArg _ (State.whenIdle_idle hidle State.doDecode)

end Sys2Proof.Machine

/-! ### A PARSE's acceptance and its completion (42_block_framer R180, R198, R199) -/

namespace Sys2Proof.Machine

/-- Settles O9: the job is captureJob, which holds the bytes below RAW_LEN and CFG. -/
theorem parseIsAccepted : Obligations.ParseIsAccepted := by
  unfold Obligations.ParseIsAccepted
  intro n s hidle hle
  refine ⟨captureJob s, execOf_parse_accepted hidle hle, ?_, length_ibufBytesUpTo s _,
    fun i hi => getElem?_ibufBytesUpTo s hi, rfl, rfl⟩
  rintro rfl
  rw [exec_eq_execOf]
  exact execOf_parse_accepted hidle hle

/-- parse_block on a header that fails (42_block_framer R198). -/
theorem parseBlock_of_header_error {job : Job} {c : HdrCause} (h : parseHeader job.bytes = .error c) :
    parseBlock job = .malformed c := by simp [parseBlock, h]

/-- parse_block on a header that parses (42_block_framer R191). -/
theorem parseBlock_of_header_ok {job : Job} {h : Header} {payload : List Byte}
    (hp : parseHeader job.bytes = .ok (h, payload)) :
    parseBlock job = parsePayload job.mode job.policy job.bytes.length h payload := by simp [parseBlock, hp]

/-- MALFORMED_HEADER comes from the header alone (42_block_framer R189). -/
theorem parseBlock_malformed_iff {job : Job} {c : HdrCause} :
    parseBlock job = .malformed c ↔ parseHeader job.bytes = .error c := by
  refine ⟨fun hm => ?_, parseBlock_of_header_error⟩
  rcases parseBlock_cases job with ⟨c', _, he, hr⟩ | ⟨h, payload, _, hr⟩
  · rw [hm] at hr
    cases hr
    exact he
  · rw [hm] at hr
    rcases parsePayload_cases job.mode job.policy job.bytes.length h payload with
      ⟨_, h'⟩ | ⟨_, ⟨_, h'⟩ | ⟨_, h'⟩⟩ <;> rw [h'] at hr <;> cases hr

/-- HDR_FORM is 1 for the parenthesised form (10_state R35). -/
theorem HdrForm.word_eq (f : HdrForm) : f.word = if f = .paren then 1#32 else 0#32 := by cases f <;> rfl

/-- Each OBUF entry after `k` samples have been written (42_block_framer R195). -/
theorem obufEntry_putSamples_of_length (s : State) {vs : List DWord} {k : Nat} (h : vs.length = k) (j : Nat) :
    obufEntry (s.putSamples vs) j = if j < k then vs.getD j 0#64 else obufEntry s j := by
  subst h
  rw [obufEntry_putSamples, List.getD_eq_getElem?_getD]
  by_cases hj : j < vs.length <;> simp [hj]

/-- Settles O15: the completion step writes what putOutcome writes for each result, and there are PAYLOAD_BYTES div 4
samples. -/
theorem completionResults : Obligations.CompletionResults := by
  unfold Obligations.CompletionResults
  intro p s job hs hagent
  refine ⟨_, State.stepWith_completion hagent hs, rfl, ?_⟩
  rw [State.complete]
  cases hr : parseBlock job with
  | malformed c =>
    have hcause := parseHeader_error_ne_none (parseBlock_malformed_iff.mp hr)
    exact ⟨rfl, rfl, hcause, rfl, rfl, rfl, rfl, rfl, rfl, fun _ => rfl⟩
  | lengthMismatch h pb =>
    exact ⟨rfl, rfl, h.form.word_eq, toNat_countWord _, toNat_countWord _, toNat_countWord _, toNat_countWord _, rfl,
      fun _ => rfl⟩
  | tooShort h pb samples =>
    have hlen := (parseBlock_samples_length (.inl hr)).1
    exact ⟨rfl, rfl, h.form.word_eq, toNat_countWord _, toNat_countWord _, toNat_countWord _, toNat_countWord _,
      toNat_countWord _, obufEntry_putSamples_of_length (s.advance.putResults h pb (pb / 4)) hlen⟩
  | success h pb samples =>
    have hlen := (parseBlock_samples_length (.inr hr)).1
    exact ⟨rfl, rfl, h.form.word_eq, toNat_countWord _, toNat_countWord _, toNat_countWord _, toNat_countWord _,
      toNat_countWord _, obufEntry_putSamples_of_length (s.advance.putResults h pb (pb / 4)) hlen⟩

/-- The unit moves only where the schedule had a choice (log 5). -/
theorem State.contended_of_nextAgent_unit {s : State} {schedule : Nat → Agent} (h : s.nextAgent schedule = .unit) :
    s.contended = true := by
  by_contra hc
  rw [State.nextAgent, if_neg hc] at h
  cases h

/-- The step in which the unit completes a PARSE, from its answer (70_reset_and_hazards R283). -/
theorem State.eq_complete_of_stepWith {s t : State} {p : Params} {job : Job} (hs : s.fsm = .parsing job)
    (hagent : s.nextAgent p.schedule = .unit) (h : s.stepWith p = .next t) : t = s.advance.complete job := by
  rw [State.stepWith_completion hagent hs] at h
  cases h
  rfl

/-- Settles O16: complete_frame, after the choice of who moves has been counted. -/
theorem completionFrame : Obligations.CompletionFrame := by
  unfold Obligations.CompletionFrame
  intro p s t job hs hagent h
  obtain rfl := State.eq_complete_of_stepWith hs hagent h
  obtain ⟨haddr, hwr, hmode, hpolicy, hraw, hdecIn, hinfo, hmant, hlo, hhi, _, hscript, hclock, hgranted, hreplies,
    hdraws, hresets⟩ := complete_frame s.advance job
  have hcount : s.advance.clock = s.clock + 1 := if_pos (State.contended_of_nextAgent_unit hagent)
  exact ⟨hraw, hmode, hpolicy, hdecIn, hinfo, hmant, hlo, hhi, haddr, hwr, ibufByte_complete s.advance job, hscript,
    hclock.trans hcount, hgranted, hreplies, hdraws, hresets⟩

/-- An entry below SAMPLE_COUNT holds a sample, whatever it held before (42_block_framer R195). -/
theorem obufEntry_putSamples_congr (s t : State) {vs : List DWord} {j : Nat} (h : j < (countWord vs.length).toNat) :
    obufEntry (s.putSamples vs) j = obufEntry (t.putSamples vs) j := by
  rw [toNat_countWord] at h
  have hj : j < vs.length := by omega
  rw [obufEntry_putSamples_of_length s rfl, obufEntry_putSamples_of_length t rfl, if_pos hj, if_pos hj]

/-- What a completion shows of the job does not depend on the state (42_block_framer R199). -/
theorem State.complete_results_congr (s t : State) (job : Job) :
    (s.complete job).err = (t.complete job).err ∧ (s.complete job).hdrCause = (t.complete job).hdrCause ∧
      (s.complete job).hdrForm = (t.complete job).hdrForm ∧ (s.complete job).hdrDigits = (t.complete job).hdrDigits ∧
      (s.complete job).hdrLength = (t.complete job).hdrLength ∧
      (s.complete job).payloadOff = (t.complete job).payloadOff ∧
      (s.complete job).payloadBytes = (t.complete job).payloadBytes ∧
      (s.complete job).sampleCount = (t.complete job).sampleCount ∧
      ∀ j < (s.complete job).sampleCount.toNat, obufEntry (s.complete job) j = obufEntry (t.complete job) j := by
  have hnone : ∀ j < (0#32).toNat, obufEntry s j = obufEntry t j := fun j hj => absurd hj (Nat.not_lt_zero j)
  simp only [State.complete]
  cases hr : parseBlock job with
  | malformed c => exact ⟨rfl, rfl, rfl, rfl, rfl, rfl, rfl, rfl, hnone⟩
  | lengthMismatch h pb => exact ⟨rfl, rfl, rfl, rfl, rfl, rfl, rfl, rfl, hnone⟩
  | tooShort h pb samples =>
    have hlen := (parseBlock_samples_length (.inl hr)).1
    refine ⟨rfl, rfl, rfl, rfl, rfl, rfl, rfl, rfl, fun j hj => ?_⟩
    exact obufEntry_putSamples_congr (s.putResults h pb (pb / 4)) (t.putResults h pb (pb / 4)) (hlen ▸ hj)
  | success h pb samples =>
    have hlen := (parseBlock_samples_length (.inr hr)).1
    refine ⟨rfl, rfl, rfl, rfl, rfl, rfl, rfl, rfl, fun j hj => ?_⟩
    exact obufEntry_putSamples_congr (s.putResults h pb (pb / 4)) (t.putResults h pb (pb / 4)) (hlen ▸ hj)

/-- Settles O17: both steps are completions of the same job. -/
theorem parseIsFunctionOfJob : Obligations.ParseIsFunctionOfJob := by
  unfold Obligations.ParseIsFunctionOfJob
  intro p₁ p₂ s₁ s₂ t₁ t₂ job hs₁ hs₂ hagent₁ hagent₂ h₁ h₂
  obtain rfl := State.eq_complete_of_stepWith hs₁ hagent₁ h₁
  obtain rfl := State.eq_complete_of_stepWith hs₂ hagent₂ h₂
  exact State.complete_results_congr _ _ job

end Sys2Proof.Machine

/-! ### The header's failures and its parts (42_block_framer R182 to R190) -/

namespace Sys2Proof.Machine

/-- isdigit, as bounds on the byte (42_block_framer R189). -/
theorem isDigit_iff {c : Byte} : isDigit c = true ↔ 0x30 ≤ c.toNat ∧ c.toNat ≤ 0x39 := by simp [isDigit]

/-- Digits take the scan for `)` on to what follows them (42_block_framer R184). -/
theorem scanCount_append {ds : List Byte} (hds : allDigits ds) (bs : List Byte) (i dc : Nat) :
    scanCount (ds ++ bs) i dc = scanCount bs (i + ds.length) (ds.foldl foldDigit dc) := by
  induction ds generalizing i dc with
  | nil => rfl
  | cons c ds ih =>
    obtain ⟨hc, hds⟩ := allDigits_cons.mp hds
    rw [List.cons_append, scanCount, if_neg (ne_paren_of_isDigit hc).2, if_pos hc, ih hds, List.length_cons,
      List.foldl_cons, Nat.add_right_comm, Nat.add_assoc]

/-- Digits take the length part on to what follows them (42_block_framer R186). -/
theorem readLength_append {ds : List Byte} (hds : allDigits ds) (bs : List Byte) (k len : Nat) :
    readLength (ds ++ bs) (ds.length + k) len = readLength bs k (ds.foldl foldDigit len) := by
  induction ds generalizing len with
  | nil => rw [List.length_nil, Nat.zero_add]; rfl
  | cons c ds ih =>
    obtain ⟨hc, hds⟩ := allDigits_cons.mp hds
    rw [List.length_cons, Nat.add_right_comm, List.cons_append, readLength, if_pos hc, ih hds, List.foldl_cons]

/-- A digit after the marker is digit_count (42_block_framer R183). -/
theorem parseHeader_plain {c : Byte} (hc : isDigit c = true) (tail : List Byte) :
    parseHeader (0x23#8 :: c :: tail) = finishHeader .plain (digitVal c) 2 tail := by
  have hcount : CountPart .plain (digitVal c) [c] := ⟨c, rfl, hc, rfl⟩
  exact parseHeader_countPart hcount tail

/-- The numeral between the parentheses is digit_count (42_block_framer R184). -/
theorem parseHeader_paren {ds : List Byte} (hne : ds ≠ []) (hds : allDigits ds) (tail : List Byte) :
    parseHeader (0x23#8 :: 0x28#8 :: ds ++ 0x29#8 :: tail) =
      finishHeader .paren (numeral ds) (3 + ds.length) tail := by
  have hcount : CountPart .paren (numeral ds) (0x28#8 :: ds ++ [0x29#8]) := ⟨ds, rfl, hne, hds, rfl⟩
  have hbytes : 0x23#8 :: 0x28#8 :: ds ++ 0x29#8 :: tail = 0x23#8 :: (0x28#8 :: ds ++ [0x29#8]) ++ tail := by simp
  have hstart : 3 + ds.length = 1 + (0x28#8 :: ds ++ [0x29#8]).length := by simp; omega
  rw [hbytes, hstart, parseHeader_countPart hcount]

theorem finishHeader_of_readLength_error {form : HdrForm} {dc p : Nat} {bs : List Byte} {c : HdrCause}
    (h : readLength bs dc 0 = .error c) : finishHeader form dc p bs = .error c := by simp [finishHeader, h]

theorem finishHeader_of_readLength_ok {form : HdrForm} {dc p len : Nat} {bs payload : List Byte}
    (h : readLength bs dc 0 = .ok (len, payload)) :
    finishHeader form dc p bs = .ok (⟨form, dc, len, p + dc⟩, payload) := by simp [finishHeader, h]

/-- The length part's failures are its own, never NO_MARKER (42_block_framer R186). -/
theorem finishHeader_ne_noMarker (form : HdrForm) (dc p : Nat) (bs : List Byte) :
    finishHeader form dc p bs ≠ .error .noMarker := by
  rcases finishHeader_cases form dc p bs with ⟨c, hr, he⟩ | ⟨len, payload, _, hok⟩
  · rw [he]
    rcases readLength_error hr with rfl | rfl <;> simp
  · simp [hok]

/-- Only a missing marker is NO_MARKER: after it every failure has another cause (42_block_framer R182). -/
theorem parseHeader_marker_ne_noMarker (rest : List Byte) : parseHeader (0x23#8 :: rest) ≠ .error .noMarker := by
  rcases parseHeader_cases (0x23#8 :: rest) with ⟨hnil | ⟨m, _, hm, hne⟩, _⟩ | ⟨_, he⟩ |
      ⟨c, _, _, _, ⟨_, he⟩ | ⟨_, he⟩⟩ | ⟨_, _, ⟨e, hs, he⟩ | ⟨dc, p, after, _, he⟩⟩
  · cases hnil
  · cases hm
    exact absurd rfl hne
  · simp [he]
  · simp [he]
  · exact he ▸ finishHeader_ne_noMarker _ _ _ _
  · rw [he]
    rcases scanCount_error hs with rfl | rfl <;> simp
  · exact he ▸ finishHeader_ne_noMarker _ _ _ _

/-- Settles O20: a buffer is empty, begins with another byte, or begins with the marker. -/
theorem markerIsRequired : Obligations.MarkerIsRequired := by
  unfold Obligations.MarkerIsRequired
  intro job
  rw [parseBlock_malformed_iff]
  cases job.bytes with
  | nil => simp [parseHeader]
  | cons m rest =>
    by_cases hm : m = 0x23#8
    · subst hm
      simp [parseHeader_marker_ne_noMarker]
    · simp [parseHeader, hm]

/-- Settles O21: a digit after the marker is a count part of the plain form. -/
theorem plainCountPart : Obligations.PlainCountPart := by
  unfold Obligations.PlainCountPart
  refine ⟨rfl, ⟨_, _, parseHeader_hash0 []⟩, fun bytes h payload hp => ?_, fun c rest hparen => ⟨fun hc => ?_, ?_⟩⟩
  · obtain ⟨hoff, hlen⟩ := parseHeader_ok_length hp
    omega
  · simp [parseHeader, hparen, mt isDigit_iff.mp hc]
  · intro hlo hhi h payload hp
    rw [parseHeader_plain (isDigit_iff.mpr ⟨hlo, hhi⟩), finishHeader_ok_iff] at hp
    obtain ⟨lens, _, _, _, rfl⟩ := hp
    exact ⟨rfl, rfl, Nat.sub_le_of_le_add hhi, rfl⟩

/-- A scan that fails is the header's failure (42_block_framer R184). -/
theorem parseHeader_of_scanCount_error {bs : List Byte} {c : HdrCause} (h : scanCount bs 2 0 = .error c) :
    parseHeader (0x23#8 :: 0x28#8 :: bs) = .error c := by simp [parseHeader, h]

/-- Settles O22: the scan passes over the digits, and the next byte, if there is one, decides. -/
theorem parenCountPart : Obligations.ParenCountPart := by
  unfold Obligations.ParenCountPart
  intro ds hds
  refine ⟨fun hne after h payload hp => ?_, fun after => rfl, fun c after hc hparen => ?_, ?_⟩
  · rw [parseHeader_paren hne hds, finishHeader_ok_iff] at hp
    obtain ⟨lens, _, _, _, rfl⟩ := hp
    exact ⟨rfl, rfl, rfl⟩
  · refine parseHeader_of_scanCount_error (bs := ds ++ c :: after) ?_
    simp [scanCount_append hds, scanCount, hparen, hc]
  · have hscan := scanCount_append hds [] 2 0
    rw [List.append_nil] at hscan
    exact parseHeader_of_scanCount_error hscan

/-- A length part of which digits are missing, by what stands in the place of the first of them
(42_block_framer R186). -/
theorem readLength_missing {ds : List Byte} {dc : Nat} (hds : allDigits ds) (hlt : ds.length < dc) (bs : List Byte)
    (len : Nat) : ∃ k, readLength (ds ++ bs) dc len = readLength bs (k + 1) (ds.foldl foldDigit len) := by
  obtain ⟨k, rfl⟩ := Nat.exists_eq_add_of_lt hlt
  exact ⟨k, readLength_append hds bs (k + 1) len⟩

/-- Settles O23: after the count part the length part decides, and it passes over the digits. -/
theorem lengthPart : Obligations.LengthPart := by
  unfold Obligations.LengthPart
  intro form dc count ds hcount hds
  refine ⟨fun hlen after => ?_, fun hlt => ?_, fun hlt c after hc => ?_⟩
  · rw [List.append_assoc, parseHeader_countPart hcount, finishHeader_ok_iff]
    exact ⟨ds, rfl, hlen, hds, rfl⟩
  · obtain ⟨k, hread⟩ := readLength_missing hds hlt [] 0
    rw [parseHeader_countPart hcount, ← List.append_nil ds]
    exact finishHeader_of_readLength_error hread
  · obtain ⟨k, hread⟩ := readLength_missing hds hlt (c :: after) 0
    rw [List.append_assoc, parseHeader_countPart hcount]
    refine finishHeader_of_readLength_error (hread.trans ?_)
    simp [readLength, hc]

/-- No `)` stands among digits, so the one that ends a count part is the first of the buffer (42_block_framer R184). -/
theorem getElem?_digits_append_ne_closeParen {ds : List Byte} (hds : allDigits ds) (after : List Byte) {k : Nat}
    (hk : k < ds.length) : (ds ++ after)[k]? ≠ some 0x29#8 := by
  rw [List.getElem?_append_left hk]
  exact fun heq => (ne_paren_of_isDigit (hds _ (List.mem_of_getElem? heq))).2 rfl

/-- Settles O24: the offset is the number of bytes before the payload in the grammar's reading of the buffer. -/
theorem payloadOffset : Obligations.PayloadOffset := by
  unfold Obligations.PayloadOffset
  intro bytes payload h hp
  obtain ⟨count, lens, rfl, hcount, hlen, _, _, hoff⟩ := (headerMatchesGrammar bytes payload h).mp hp
  have hbefore : (0x23#8 :: count ++ lens).length = h.offset := by
    simp only [List.length_append, List.length_cons]
    omega
  refine ⟨fun hform => ?_, fun hform => ?_, ?_, ?_⟩
  · rw [hform] at hcount
    obtain ⟨c, rfl, _, _⟩ := hcount
    rw [hoff, hlen]
    rfl
  · rw [hform] at hcount
    obtain ⟨ds, rfl, _, hds, _⟩ := hcount
    refine ⟨ds.length + 2, by omega, by simp, fun k hk hlt => ?_, ?_⟩
    · obtain ⟨k, rfl⟩ := Nat.exists_eq_add_of_le' hk
      simpa using getElem?_digits_append_ne_closeParen hds (0x29#8 :: lens ++ payload) (show k < ds.length by omega)
    · simp only [List.length_append, List.length_cons, List.length_nil] at hoff
      omega
  · rw [List.length_append, hbefore]
    omega
  · rw [← hbefore, List.drop_left]

end Sys2Proof.Machine

/-! ### Samples, the trailing byte and the two header forms (42_block_framer R191 to R195, R200) -/

namespace Sys2Proof.Machine

/-- Chunk `j` is the little-endian word at byte 4j (30_encoding R90, R97). -/
theorem getElem?_chunkWords {ns : Nat} {bs : List Byte} (hlen : 4 * ns ≤ bs.length) {j : Nat} (hj : j < ns) :
    (chunkWords ns bs)[j]? = some (wordOfBytes (bs.getD (4 * j) 0#8) (bs.getD (4 * j + 1) 0#8)
      (bs.getD (4 * j + 2) 0#8) (bs.getD (4 * j + 3) 0#8)) := by
  induction ns generalizing bs j with
  | zero => omega
  | succ ns ih =>
    match bs, hlen with
    | b0 :: b1 :: b2 :: b3 :: rest, hlen =>
      simp only [List.length_cons] at hlen
      cases j with
      | zero => rfl
      | succ j => exact ih (by omega) (by omega)

/-- Bytes after the last chunk are not read (42_block_framer R193). -/
theorem chunkWords_append {ns : Nat} {bs : List Byte} (hlen : 4 * ns ≤ bs.length) (tail : List Byte) :
    chunkWords ns (bs ++ tail) = chunkWords ns bs := by
  induction ns generalizing bs with
  | zero => simp [chunkWords]
  | succ ns ih =>
    match bs, hlen with
    | b0 :: b1 :: b2 :: b3 :: rest, hlen =>
      simp only [List.length_cons] at hlen
      simp only [List.cons_append, chunkWords, ih (show 4 * ns ≤ rest.length by omega)]

/-- Settles O26: the samples are the payload's chunks decoded, and the payload is the buffer from the offset on. -/
theorem samplesAreChunks : Obligations.SamplesAreChunks := by
  unfold Obligations.SamplesAreChunks
  intro job h pb samples hs
  refine ⟨(parseBlock_samples_length hs).1, fun j hj => ?_⟩
  obtain ⟨payload, hp, rfl, rfl⟩ := parseBlock_samples hs
  obtain ⟨_, _, _, hpayload⟩ := payloadOffset _ _ _ hp
  obtain ⟨_, hlen⟩ := parseHeader_ok_length hp
  have hbyte (i : Nat) : payload.getD i 0#8 = job.bytes.getD (h.offset + i) 0#8 := by
    rw [hpayload, List.getD_eq_getElem?_getD, List.getElem?_drop, List.getD_eq_getElem?_getD]
  refine ⟨by omega, ?_⟩
  rw [List.getElem?_map, getElem?_chunkWords (by omega) hj]
  simp only [hbyte, ← Nat.add_assoc]
  rfl

/-- Bytes added to a buffer whose header parses are added to its payload (30_encoding R94). -/
theorem parseHeader_append {bytes payload : List Byte} {h : Header} (hp : parseHeader bytes = .ok (h, payload))
    (tail : List Byte) : parseHeader (bytes ++ tail) = .ok (h, payload ++ tail) := by
  rw [headerMatchesGrammar] at hp ⊢
  obtain ⟨count, lens, rfl, hgrammar⟩ := hp
  exact ⟨count, lens, List.append_assoc _ _ _, hgrammar⟩

/-- The payload is cut off before the trailing byte, so that byte is in no chunk (42_block_framer R191, R192). -/
theorem parseBlock_append_byte {bytes payload : List Byte} {h : Header} (hp : parseHeader bytes = .ok (h, payload))
    (b : Byte) (mode : F32Mode) (policy : LenPolicy) :
    parseBlock ⟨bytes ++ [b], mode, policy⟩ = parsePayload mode policy (bytes.length + 1) h payload := by
  obtain ⟨_, hlen⟩ := parseHeader_ok_length hp
  have hfit : 4 * (payloadLength (bytes.length + 1) h.offset / 4) ≤ payload.length := by
    simp only [payloadLength, Config.trailBytes]
    omega
  rw [parseBlock_of_header_ok (parseHeader_append hp [b])]
  simp only [parsePayload, List.length_append, List.length_singleton, chunkWords_append hfit]

/-- Settles O29: with either last byte the outcome is that of the same payload, of the same length. -/
theorem trailingByteIsDropped : Obligations.TrailingByteIsDropped := by
  unfold Obligations.TrailingByteIsDropped
  intro bytes payload h b b' mode policy hp
  rw [parseBlock_append_byte hp, parseBlock_append_byte hp]

/-- A header `d` bytes longer, in a buffer `d` bytes longer, leaves the same payload (42_block_framer R192, R200). -/
theorem parsePayload_sameButForm (mode : F32Mode) (policy : LenPolicy) (n : Nat) (h : Header)
    (payload : List Byte) (d : Nat) :
    SameButForm d (parsePayload mode policy n h payload)
      (parsePayload mode policy (n + d) { h with form := .paren, offset := h.offset + d } payload) := by
  have hlength : payloadLength (n + d) (h.offset + d) = payloadLength n h.offset := by
    simp only [payloadLength, Config.trailBytes]
    omega
  have hviolates (pb : Nat) : lengthViolates policy { h with form := .paren, offset := h.offset + d } pb =
      lengthViolates policy h pb := rfl
  simp only [parsePayload, hlength, hviolates]
  split_ifs
  · exact ⟨rfl, rfl⟩
  · exact ⟨rfl, rfl, rfl⟩
  · exact ⟨rfl, rfl, rfl⟩

/-- The two forms of a header have the same length part, which fails or leaves the same payload
(42_block_framer R200). -/
theorem parseBlock_sameButForm (mode : F32Mode) (policy : LenPolicy) {c : Byte} {ds : List Byte} (tail : List Byte)
    (hc : isDigit c = true) (hne : ds ≠ []) (hds : allDigits ds) (hcount : numeral ds = digitVal c) :
    SameButForm (1 + ds.length) (parseBlock ⟨0x23#8 :: c :: tail, mode, policy⟩)
      (parseBlock ⟨0x23#8 :: 0x28#8 :: ds ++ 0x29#8 :: tail, mode, policy⟩) := by
  have hplain := parseHeader_plain hc tail
  have hparen := parseHeader_paren hne hds tail
  rw [hcount] at hparen
  cases hread : readLength tail (digitVal c) 0 with
  | error e =>
    rw [parseBlock_of_header_error (hplain.trans (finishHeader_of_readLength_error hread)),
      parseBlock_of_header_error (hparen.trans (finishHeader_of_readLength_error hread))]
    rfl
  | ok r =>
    obtain ⟨len, payload⟩ := r
    rw [parseBlock_of_header_ok (hplain.trans (finishHeader_of_readLength_ok hread)),
      parseBlock_of_header_ok (hparen.trans (finishHeader_of_readLength_ok hread))]
    have hsame := parsePayload_sameButForm mode policy (0x23#8 :: c :: tail).length
      ⟨.plain, digitVal c, len, 2 + digitVal c⟩ payload (1 + ds.length)
    have hlength : (0x23#8 :: 0x28#8 :: ds ++ 0x29#8 :: tail).length =
        (0x23#8 :: c :: tail).length + (1 + ds.length) := by
      simp only [List.length_append, List.length_cons]
      omega
    have hoffset : 3 + ds.length + digitVal c = 2 + digitVal c + (1 + ds.length) := by omega
    rw [hlength, hoffset]
    exact hsame

/-- Outcomes that differ in the form alone leave the same state, but for HDR_FORM and PAYLOAD_OFF
(42_block_framer R198, R200). -/
theorem State.putOutcome_sameButForm (s : State) {d : Nat} {r r' : ParseResult} (h : SameButForm d r r') :
    s.putOutcome r' =
      { s.putOutcome r with hdrForm := (s.putOutcome r').hdrForm, payloadOff := (s.putOutcome r').payloadOff } := by
  match r, r', h with
  | .malformed _, .malformed _, rfl => rfl
  | .lengthMismatch _ _, .lengthMismatch _ _, ⟨rfl, rfl⟩ => rfl
  | .tooShort _ _ _, .tooShort _ _ _, ⟨rfl, rfl, rfl⟩ => rfl
  | .success _ _ _, .success _ _ _, ⟨rfl, rfl, rfl⟩ => rfl

/-- Settles O28: the results differ in the form alone, and then so do the states they leave. -/
theorem formsAgree : Obligations.FormsAgree := by
  unfold Obligations.FormsAgree
  intro mode policy c ds tail hc hne hds hcount
  have hsame := parseBlock_sameButForm mode policy tail hc hne hds hcount
  refine ⟨hsame, fun s => ?_⟩
  simp only [State.complete]
  rw [s.putOutcome_sameButForm hsame]
  exact ⟨rfl, rfl, rfl, rfl, rfl, rfl, rfl⟩

end Sys2Proof.Machine

/-! ### The outcomes of a PARSE and their order (60_exceptions R247, R251) -/

namespace Sys2Proof.Machine

/-- Settles O25: a header failure is MALFORMED_HEADER; after a header, the branches are those of parsePayload. -/
theorem outcomeOrder : Obligations.OutcomeOrder := by
  unfold Obligations.OutcomeOrder
  intro job
  refine ⟨fun c => parseBlock_of_header_error, fun h payload hp => ?_⟩
  rw [parseBlock_of_header_ok hp]
  rcases parsePayload_cases job.mode job.policy job.bytes.length h payload with
    ⟨hmismatch, hr⟩ | ⟨hmatch, ⟨hfew, hr⟩ | ⟨henough, hr⟩⟩
  · rw [if_pos hmismatch]
    exact hr
  · rw [if_neg hmatch, if_pos hfew]
    exact ⟨_, hr⟩
  · rw [if_neg hmatch, if_neg (Nat.not_lt.mpr henough)]
    exact ⟨_, hr⟩

/-- A PARSE taken with BUSY = 0 and RAW_LEN above IBUF_BYTES records LEN_RANGE (42_block_framer R181). -/
theorem execOf_parse_lenRange {s : State} {n : Nat} (hidle : s.busy = false) (hlong : n < s.rawLen.toNat) :
    execOf n .parse s = .next { s with err := .lenRange, hdrCause := .none } := by
  have hraise : s.acceptParse n = s.raise .lenRange .none := if_pos hlong
  exact congrArg _ ((State.whenIdle_idle hidle _).trans hraise)

/-- Settles O10: the instance's exec is execOf on the instance's size. -/
theorem parseOutOfRange : Obligations.ParseOutOfRange := by
  unfold Obligations.ParseOutOfRange
  intro n s hidle hlong
  refine ⟨execOf_parse_lenRange hidle hlong, ?_, rfl⟩
  rintro rfl
  rw [exec_eq_execOf]
  exact execOf_parse_lenRange hidle hlong

end Sys2Proof.Machine

/-! ### DECODE's results: who changes them (41_binary32_decoder R152, 70_reset_and_hazards R280) -/

namespace Sys2Proof.Machine

/-- The four registers DECODE writes: DEC_INFO, DEC_MANT, DEC_OUT_LO, DEC_OUT_HI (41_binary32_decoder R140). -/
def State.decodeResults (s : State) : Word × Word × Word × Word := (s.decInfo, s.decMant, s.decOutLo, s.decOutHi)

theorem State.decodeResults_eq_iff {s t : State} : t.decodeResults = s.decodeResults ↔
    t.decInfo = s.decInfo ∧ t.decMant = s.decMant ∧ t.decOutLo = s.decOutLo ∧ t.decOutHi = s.decOutHi := by
  simp [State.decodeResults]

theorem State.decodeResults_of_guarded {s t : State} (h : t.guarded = s.guarded) :
    t.decodeResults = s.decodeResults := State.congr_guarded State.decodeResults h

/-- The framer does not own DECODE's results (42_block_framer R199). -/
theorem State.decodeResults_complete (s : State) (job : Job) : (s.complete job).decodeResults = s.decodeResults := by
  simp [State.decodeResults, complete_frame s job]

theorem State.decodeResults_acceptParse (s : State) (n : Nat) : (s.acceptParse n).decodeResults = s.decodeResults := by
  unfold State.acceptParse
  split <;> rfl

/-- Of the words written to CMD only DECODE's changes its results (41_binary32_decoder R152). -/
theorem State.writeCmd_decodeResults {s t : State} {n : Nat} {v : Word} (h : s.writeCmd n v = .next t) :
    t.decodeResults = s.decodeResults ∨ Sys2Proof.decode v = .ok .decode := by
  have hw := s.writeCmd_cases n v
  rw [h] at hw
  simp only [Host.Outcome.next.injEq] at hw
  rcases hw with ⟨_, rfl⟩ | ⟨_, rfl | ⟨hd, _⟩ | ⟨_, rfl⟩ | rfl⟩
  · exact .inl rfl
  · exact .inl rfl
  · exact .inr hd
  · exact .inl (s.decodeResults_acceptParse n)
  · exact .inl rfl

/-- Of all writes only that of DECODE's word to CMD changes DECODE's results (70_reset_and_hazards R280). -/
theorem State.writeLoc_decodeResults {s t : State} {n : Nat} {v : Word} {l : Loc} (h : s.writeLoc n v l = .next t) :
    t.decodeResults = s.decodeResults ∨ (l = .reg .cmd ∧ Sys2Proof.decode v = .ok .decode) := by
  have hgate (f : State → State) (hf : (f s).decodeResults = s.decodeResults) :
      (s.whenIdle f).decodeResults = s.decodeResults := by
    rcases s.whenIdle_cases f with ⟨_, hg⟩ | ⟨_, hg⟩ <;> rw [hg]
    · rfl
    · exact hf
  cases l with
  | reg r =>
    cases r with
    | cmd => exact (State.writeCmd_decodeResults h).imp_right fun hd => ⟨rfl, hd⟩
    | cfg | rawLen => cases h; exact .inl (hgate _ rfl)
    | status | decIn | decInfo | decMant | decOutLo | decOutHi | hdrForm | hdrDigits | hdrLength | payloadOff
    | payloadBytes | sampleCount | ibufSize => cases h; exact .inl rfl
  | ibufWord k => cases h; exact .inl (hgate _ rfl)
  | obufLo j | obufHi j => cases h; exact .inl rfl

/-- A host write that changes DECODE's results is that of DECODE's word to CMD (70_reset_and_hazards R280). -/
theorem State.access_write_decodeResults {s t : State} {n : Nat} {a : Addr} {v : Word}
    (h : s.access n (.write a 32 v) = .next t) :
    t.decodeResults = s.decodeResults ∨ (a = Reg.cmd.addr ∧ v = encode .decode) := by
  cases hl : locate n a with
  | none =>
    have hnone := s.access_write_setAddrErr (size := 32) (v := v) fun l _ hsome => nomatch hl.symm.trans hsome
    cases hnone.symm.trans h
    exact .inl rfl
  | some l =>
    rw [s.access_write_of_locate v hl] at h
    rcases State.writeLoc_decodeResults h with hkept | ⟨rfl, hd⟩
    · exact .inl hkept
    · exact .inr ⟨addr_of_locate_reg hl, eq_encode_of_decode hd⟩

/-- With BUSY = 0 a step takes no choice of the schedule (log 5). -/
theorem State.advance_setScript_idle {s : State} (hidle : s.busy = false) (ops : List HostOp) :
    s.advance.setScript ops = { s with script := ops, granted := false } := by
  simp [State.advance, State.setScript, State.contended, hidle]

/-- Settles O52: of the effects of a step, only a reset and a write taken with BUSY = 0 can change DECODE's results, and
of those writes only DECODE's. -/
theorem decodeResultsChangeOnlyByDecode : Obligations.DecodeResultsChangeOnlyByDecode := by
  unfold Obligations.DecodeResultsChangeOnlyByDecode
  intro p s t h
  rw [← State.decodeResults_eq_iff]
  cases stepWith_effect h with
  | quiet same => exact .inl (State.decodeResults_of_guarded same)
  | completion job same =>
    exact .inl ((State.decodeResults_complete _ job).trans (State.decodeResults_of_guarded same))
  | reset agent op => exact .inr (.inr ⟨agent, op, rfl, rfl, rfl, rfl⟩)
  | write a v _ idle op _ =>
    have hagent := State.nextAgent_idle idle p.schedule
    obtain ⟨rest, hs⟩ := List.head?_eq_some_iff.mp op
    rw [State.stepWith_host hagent hs, State.advance_setScript_idle idle] at h
    rcases State.access_write_decodeResults h with hkept | ⟨rfl, rfl⟩
    · exact .inl hkept
    · refine .inr (.inl ⟨hagent, idle, op, ?_⟩)
      rw [hs]
      exact (State.access_write_cmd _ p.ibufBytes (decode_encode .decode)).symm.trans h

end Sys2Proof.Machine

/-! ### Every PARSE ends under a fair schedule (70_reset_and_hazards R283, 00_scope R11) -/

namespace Sys2Proof.Machine

@[simp] theorem State.complete_clock (s : State) (job : Job) : (s.complete job).clock = s.clock := by
  simp [complete_frame s job]

@[simp] theorem State.complete_granted (s : State) (job : Job) : (s.complete job).granted = s.granted := by
  simp [complete_frame s job]

@[simp] theorem State.acceptParse_clock (s : State) (n : Nat) : (s.acceptParse n).clock = s.clock := by
  unfold State.acceptParse
  split <;> rfl

@[simp] theorem State.acceptParse_granted (s : State) (n : Nat) : (s.acceptParse n).granted = s.granted := by
  unfold State.acceptParse
  split <;> rfl

/-- After every step the place in the schedule is where the choice of who moves has left it, and no grant is left
(log 5, log 9). -/
theorem stepWith_place {s t : State} {p : Params} (h : s.stepWith p = .next t) :
    t.clock = s.advance.clock ∧ t.granted = false := by
  obtain ⟨ops, u, rfl, hu⟩ := stepWith_update h
  rcases hu with rfl | ⟨job, _, rfl⟩ | rfl | ⟨v, rfl⟩ | rfl | ⟨_, rfl⟩ | rfl | ⟨_, rfl⟩ | ⟨v, rfl⟩ | ⟨v, rfl⟩ |
    ⟨_, ⟨v, rfl⟩ | ⟨v, rfl⟩ | ⟨a, k, v, _, rfl⟩ | rfl | rfl | rfl⟩ <;> simp

/-- The unit's turn ends a PARSE in progress (70_reset_and_hazards R283). -/
theorem State.stepWith_unit_idle {s : State} {p : Params} (hbusy : s.busy = true)
    (hagent : s.nextAgent p.schedule = .unit) : ∃ t, s.stepWith p = .next t ∧ t.busy = false := by
  obtain ⟨job, hs⟩ := State.busy_iff.mp hbusy
  exact ⟨_, State.stepWith_completion hagent hs, rfl⟩

/-- From `s` the machine reaches BUSY = 0 within `b` steps. -/
def State.IdleWithin (p : Params) (b : Nat) (s : State) : Prop :=
  ∃ k ≤ b, ∃ t : State, (coreOf p).run k s = .next t ∧ t.busy = false

theorem State.IdleWithin.mono {p : Params} {b c : Nat} {s : State} (h : s.IdleWithin p b) (hbc : b ≤ c) :
    s.IdleWithin p c := by
  obtain ⟨k, hk, hrun⟩ := h
  exact ⟨k, hk.trans hbc, hrun⟩

/-- A step leads to BUSY = 0, or to a state from which to go on, with its place in the schedule known. -/
theorem State.idleWithin_succ {p : Params} {b : Nat} {s : State}
    (h : ∀ t : State, t.busy = true → t.granted = false → t.clock = s.advance.clock → t.IdleWithin p b) :
    s.IdleWithin p (b + 1) := by
  obtain ⟨t, ht⟩ := s.stepWith_next p
  cases htb : t.busy with
  | false => exact ⟨1, by omega, t, run_succ_of_stepWith ht 0, htb⟩
  | true =>
    obtain ⟨hclock, hgranted⟩ := stepWith_place ht
    obtain ⟨k, hk, u, hrun, hidle⟩ := h t htb hgranted hclock
    exact ⟨k + 1, by omega, u, (run_succ_of_stepWith ht k).trans hrun, hidle⟩

/-- With no access granted, the choices up to one of the unit's, `d` choices away, end a PARSE in progress. -/
theorem State.idleWithin_of_unit_choice {p : Params} (d : Nat) {s : State} (hbusy : s.busy = true)
    (hgranted : s.granted = false) (hunit : p.schedule (s.clock + d) = .unit) : s.IdleWithin p (d + 1) := by
  induction d generalizing s with
  | zero =>
    obtain ⟨t, ht, hidle⟩ :=
      State.stepWith_unit_idle hbusy ((State.nextAgent_contended hbusy hgranted p.schedule).trans hunit)
    exact ⟨1, Nat.le_refl 1, t, run_succ_of_stepWith ht 0, hidle⟩
  | succ d ih =>
    refine State.idleWithin_succ fun t htb htg hclock => ih htb htg ?_
    have hcount : t.clock = s.clock + 1 := by simpa [State.contended, hbusy, hgranted] using hclock
    rwa [hcount, Nat.add_right_comm]

/-- A granted access comes before the choices, and takes one step more (log 9). -/
theorem State.idleWithin_of_schedule {p : Params} {s : State} {m : Nat} (hbusy : s.busy = true) (hm : s.clock ≤ m)
    (hunit : p.schedule m = .unit) : s.IdleWithin p (m - s.clock + 2) := by
  obtain ⟨d, rfl⟩ := Nat.exists_eq_add_of_le hm
  rw [Nat.add_sub_cancel_left]
  cases hgranted : s.granted with
  | false => exact (State.idleWithin_of_unit_choice d hbusy hgranted hunit).mono (by omega)
  | true =>
    refine State.idleWithin_succ fun t htb htg hclock => State.idleWithin_of_unit_choice d htb htg ?_
    have hstays : t.clock = s.clock := by simpa [State.contended, hgranted] using hclock
    rwa [hstays]

/-- Settles O55: fairness gives a choice of the unit's that is not taken yet, and the bound for it a run. -/
theorem parseEnds : Obligations.ParseEnds := by
  unfold Obligations.ParseEnds
  intro p s hbusy
  refine ⟨fun hfair => ?_, fun m => State.idleWithin_of_schedule hbusy⟩
  obtain ⟨m, hm, hunit⟩ := hfair s.clock
  obtain ⟨k, _, hrun⟩ := State.idleWithin_of_schedule hbusy hm hunit
  exact ⟨k, hrun⟩

end Sys2Proof.Machine

/-! ### Commands without a busy phase, and reset (70_reset_and_hazards R270 to R273, R284) -/

namespace Sys2Proof.Machine

/-- Settles O11: with BUSY = 0 none of the four answers writes fsm. -/
theorem immediateCommandsHaveNoBusyPhase : Obligations.ImmediateCommandsHaveNoBusyPhase := by
  unfold Obligations.ImmediateCommandsHaveNoBusyPhase
  intro n s hidle
  refine ⟨⟨s, congrArg _ (State.whenIdle_idle hidle id), hidle⟩,
    ⟨s.doDecode, congrArg _ (State.whenIdle_idle hidle State.doDecode), hidle⟩, fun v h0 h1 h2 => ?_,
    fun hlong => ⟨_, execOf_parse_lenRange hidle hlong, hidle⟩⟩
  obtain ⟨_, _, _, hillegal⟩ := opcodeMapIsTotal v
  obtain ⟨e, hd⟩ := hillegal h0 h1 h2
  exact ⟨_, State.access_write_illegal hidle n hd, hidle⟩

/-- Settles O49: the invariant reads nothing by which State.reset differs from the state after a reset event. -/
theorem invariantAtReset : Obligations.InvariantAtReset := by
  unfold Obligations.InvariantAtReset
  exact ⟨State.inv_resetEvent State.reset, Config.params_legal⟩

/-- Settles O50: the reset state's fields, and the two reads of constants at their registers' addresses. -/
theorem resetState : Obligations.ResetState := by
  unfold Obligations.ResetState
  intro n
  exact ⟨rfl, rfl, rfl, rfl, rfl, rfl, rfl, rfl, rfl, rfl, rfl, rfl, rfl, rfl, rfl, rfl, rfl,
    State.access_read_of_locate _ (locate_reg n .cmd), State.access_read_of_locate _ (locate_reg n .ibufSize)⟩

/-- Settles O51: when the host moves next, its step is the reset event. -/
theorem resetEvent : Obligations.ResetEvent := by
  unfold Obligations.ResetEvent
  intro p s rest hagent hs
  exact State.stepWith_host hagent hs

end Sys2Proof.Machine
